-- ==== Sys2Proof/Word.lean ====
section
/-!
DEFINITION. The two widths of the hardware: every general register and every bus access is one byte, SP, PC, the register
pairs and addresses are 16 bits (00 R6, R9). Arithmetic that wraps is `BitVec`'s own.
-/

namespace Sys2Proof

/-- An 8-bit value: a general register, a byte on the bus (00 R6, R9). -/
abbrev Byte := BitVec 8

/-- A 16-bit value: SP, PC, a register pair, an address (00 R6, R9). -/
abbrev Word := BitVec 16

end Sys2Proof
end

