-- ==== Sys2Proof/Machine/Bits.lean ====
section
/-!
DEFINITION. The bit-field, byte-order and extension helpers of the spec's notation (00 R9, R10).
-/

namespace Sys2Proof.Machine

/-- `v[15:8]`. -/
def hiByte (v : Word) : Byte := v.extractLsb' 8 8

/-- `v[7:0]`. -/
def loByte (v : Word) : Byte := v.extractLsb' 0 8

/-- `{hi, lo}`: the high byte first (00 R9). -/
def pairOf (hi lo : Byte) : Word := hi ++ lo

/-- `zext_16` (00 R10). -/
def zext16 (v : Byte) : Word := v.setWidth 16

/-- `sext_16`: `sext_16(0x80) = 0xFF80` (00 R10). -/
def sext16 (v : Byte) : Word := v.signExtend 16

/-- The byte `v mod 256` of an exact sum (00 R10). -/
def byteOf (v : Nat) : Byte := BitVec.ofNat 8 v

/-- A Bool as 0 or 1. -/
def bitNat (b : Bool) : Nat := if b then 1 else 0

/-- Bit `i` of a byte, `v[i]` (00 R9). -/
def bitAt (v : Byte) (i : Nat) : Bool := v.getLsbD i

end Sys2Proof.Machine
end

