-- ==== Sys2Proof/Config.lean ====
section
/-!
DEFINITION. What the spec leaves to the implementation. Its draws MEM_INIT, IO_INIT, RTC_READ and DIV_INIT (00 R8) are
arguments of the model's `load`; the constants here are what `State.reset`, which no load made, takes in their place.
-/

namespace Sys2Proof

/-- What an address listed in no memory array reads as: the byte of MEM_INIT and IO_INIT in `State.reset`. DESIGN CHOICE,
unsafe (log entry 2): the spec gives no power-on contents (70 R473) and a program must not rely on them. -/
def Config.unlistedByte : Byte := 0x00

/-- The spec's default for DIV_INIT (00 R8, 10 R56). DESIGN CHOICE, unsafe (log entry 4): the phase is a draw. -/
def Config.divInitDefault : Word := 0xABCC

/-- RTC_READ in `State.reset`: a free value, with no body, so that nothing can rest on it (00 R8, 20 R122; log entry 3). -/
opaque Config.rtcReadAtReset : Byte

end Sys2Proof
end

