-- ==== Sys2Proof/Machine/State.lean ====
section
/-!
DEFINITION. The state of the CORE, plain data, with every piece of state 10_state.md lists; the reasons a step can stop; and the
state after reset (10 R56). INVENTORY.md lists the fields with their rules and reset values.
-/

namespace Sys2Proof.Machine

open Sys2Proof

/-- A memory array: (address, byte) pairs, in the canonical form of `Cells.wf`. An address that is not listed reads as
`Config.unlistedByte`. -/
abbrev Cells := List Host.Cell

/-- The canonical form of an array whose addresses run from `lo` to below `hi`: strictly rising addresses, no entry equal to what
an unlisted address reads as. -/
abbrev Cells.wf (lo hi : Nat) (m : Cells) : Prop :=
  m.Pairwise (fun x y => x.1 < y.1) ∧ ∀ x ∈ m, lo ≤ x.1 ∧ x.1 < hi ∧ x.2 ≠ Config.unlistedByte

/-- The register file (10 R30, R32, R33). The pairs AF, BC, DE and HL are no storage of their own (10 R31). -/
structure Regs where
  a : Byte
  /-- The flag register; its low nibble is 0 (10 R34), see `readF` and `writeF`. -/
  f : Byte
  b : Byte
  c : Byte
  d : Byte
  e : Byte
  h : Byte
  l : Byte
  sp : Word
  pc : Word
  deriving DecidableEq, Repr

/-- The timer and divider (10 R46-R50, 60 R430). -/
structure Timer where
  /-- The 16-bit internal divider; DIV shows its upper byte (10 R46). -/
  divCounter : Word
  tima : Byte
  tma : Byte
  /-- TAC[2:0]: bit 2 enables, bits 1:0 select the clock (10 R49). -/
  tac : BitVec 3
  /-- Clocks until the pending reload of TIMA, 0 when none is pending (10 R50). -/
  timaReload : Nat
  deriving DecidableEq, Repr

/-- `MBC_KIND` (00 R7, 20 R110). -/
inductive MbcKind where
  | romOnly | mbc1 | mbc2 | mbc3 | mbc5
  deriving DecidableEq, Repr

/-- The memory-bank controller's registers (10 R52). -/
structure Mbc where
  romBank : BitVec 9
  ramBank : BitVec 4
  ramEnable : Bool
  /-- MBC1's banking mode, 1 is true. -/
  mode : Bool
  deriving DecidableEq, Repr

/-- The parsed cartridge header (10 R53, 70 R475). -/
structure Header where
  /-- The title's bytes up to the first 0x00. -/
  title : List Byte
  cartridgeType : Byte
  romSizeCode : Byte
  ramSizeCode : Byte
  checksum : Byte
  deriving DecidableEq, Repr

/-- What `load` fixes for the life of an instance (00 R7, R8, 10 R53). -/
structure Cart where
  kind : MbcKind
  /-- `len(image)` in bytes; `ROM_BANKS` is computed from it (20 R111). -/
  romLen : Nat
  /-- `RAM_SIZE` in bytes (20 R112); 512 cells for MBC2. -/
  ramSize : Nat
  header : Header
  /-- The draw `RTC_READ` (00 R8, 20 R122), a free value (log entry 3). -/
  rtcRead : Byte
  deriving DecidableEq, Repr

/-- The memory arrays of the bus (10 R51). `rom` and `extRam` are listed by their physical offsets, `vram`, `wram`, `oam` and
`hram` by the offset in their region, `io` by the bus address, as in the decoders of 20 R72, R73 and R85. -/
structure Memory where
  rom : Cells
  vram : Cells
  extRam : Cells
  wram : Cells
  oam : Cells
  io : Cells
  hram : Cells
  deriving DecidableEq, Repr

/-- The record of a failed step (10 R45, 60 R410). -/
structure UnimplementedOpcode where
  /-- The address of the opcode byte. -/
  pc : Word
  /-- The opcode byte. -/
  opcode : Byte
  deriving DecidableEq, Repr

/-- The whole state of one instance. -/
structure State where
  regs : Regs
  /-- Interrupt Master Enable (10 R38). -/
  ime : Bool
  /-- `ime_delay`: 0, 1 or 2 (10 R39). -/
  imeDelay : Nat
  /-- IE[4:0] (10 R40). -/
  ie : BitVec 5
  /-- IF[4:0] (10 R41). -/
  iflag : BitVec 5
  halted : Bool
  haltBug : Bool
  failure : Option UnimplementedOpcode
  timer : Timer
  mbc : Mbc
  cart : Cart
  mem : Memory
  /-- The model's own field (log entry 5): the M-cycles `m` of the last step's `Ok(m)` (60 R405). `exec` leaves the instruction's
  cost here, from which the step advances the timer. -/
  cycles : Nat
  deriving DecidableEq, Repr

/-- The address of an I/O register of the core, which `io` never lists (20 R85). -/
def isCoreIo (a : Nat) : Bool := a == 0xFF04 || a == 0xFF05 || a == 0xFF06 || a == 0xFF07 || a == 0xFF0F

/-- Every memory array is in its canonical form, within the size 10 R51 gives it. -/
abbrev Memory.wf (c : Cart) (m : Memory) : Prop :=
  Cells.wf 0 c.romLen m.rom ∧ Cells.wf 0 0x2000 m.vram ∧ Cells.wf 0 c.ramSize m.extRam ∧ Cells.wf 0 0x2000 m.wram ∧
  Cells.wf 0 0xA0 m.oam ∧ Cells.wf 0xFF00 0xFF80 m.io ∧ Cells.wf 0 0x7F m.hram ∧ ∀ x ∈ m.io, isCoreIo x.1 = false

/-- Why a step ends without a next state. -/
inductive Fault where
  /-- Raised by `step` alone, in a state whose `failure` is set: the failure is latched and the machine takes no further step
  (10 R45, 60 R452). SAFE: the spec's machine stops there too, and says the same record again. -/
  | unimplementedOpcode (pc : Word) (opcode : Byte)
  deriving DecidableEq, Repr

/-- Why the model gives a call no meaning. -/
inductive Refusal where
  /-- For an arm of `exec` without a meaning. No arm is left without one, so nothing raises it. SAFE. -/
  | notModelled (mnemonic : String)
  /-- Raised by `hostRequestInterrupt` for a source outside 0 to 4, which the spec refuses as a precondition violation
  (60 R453). SAFE. -/
  | noSuchInterruptSource (i : Nat)
  deriving DecidableEq, Repr

/-- The outcome of a meaning or a step. -/
abbrev Result := Host.Outcome State Fault Refusal

/-- The registers after reset (10 R56). -/
def Regs.reset : Regs where
  a := 0x01
  f := 0xB0
  b := 0x00
  c := 0x13
  d := 0x00
  e := 0xD8
  h := 0x01
  l := 0x4D
  sp := 0xFFFE
  pc := 0x0100

/-- The cartridge slot of `State.reset`: no image. DESIGN CHOICE (log entry 1); a `load` replaces it. `rtcRead` is a free value
(log entry 3). -/
def Cart.none : Cart where
  kind := .romOnly
  romLen := 0
  ramSize := 0
  header := ⟨[], 0, 0, 0, 0⟩
  rtcRead := Config.rtcReadAtReset

/-- The machine right after reset: 10 R56, with no cartridge image (log entry 1), nothing listed in memory (log entry 2) and the
spec's default phase of the divider (log entry 4). -/
def State.reset : State where
  regs := Regs.reset
  ime := false
  imeDelay := 0
  ie := 0x00
  iflag := 0x01
  halted := false
  haltBug := false
  failure := none
  timer := { divCounter := Config.divInitDefault, tima := 0x00, tma := 0x00, tac := 0, timaReload := 0 }
  mbc := { romBank := 1, ramBank := 0, ramEnable := false, mode := false }
  cart := Cart.none
  mem := ⟨[], [], [], [], [], [], []⟩
  cycles := 0

end Sys2Proof.Machine
end

