-- ==== Sys2Proof/Machine/Cells.lean ====
section
/-!
DEFINITION. Reading and writing one memory array. A write keeps the canonical form of `Cells.wf`; the laws of reading after writing
hold for every list, canonical or not (Sys2Proof/Laws/Cells.lean).
-/

namespace Sys2Proof.Machine

open Sys2Proof

/-- The byte at address `a`: the listed one, or `Config.unlistedByte`. -/
def cellsGet : Cells → Nat → Byte
  | [], _ => Config.unlistedByte
  | x :: r, a => if x.1 = a then x.2 else cellsGet r a

/-- The array without any entry for `a`. -/
def cellsErase (m : Cells) (a : Nat) : Cells := m.filter (fun x => x.1 != a)

/-- The entry for `a` put at its place in the rising order. -/
def cellsInsert : Cells → Nat → Byte → Cells
  | [], a, v => [(a, v)]
  | x :: r, a, v => if a < x.1 then (a, v) :: x :: r else x :: cellsInsert r a v

/-- The array after `v` is written at `a`. -/
def cellsSet (m : Cells) (a : Nat) (v : Byte) : Cells :=
  if v = Config.unlistedByte then cellsErase m a else cellsInsert (cellsErase m a) a v

/-- The canonical array that holds the bytes `bs` from address `a` on. -/
def cellsOfBytes : Nat → List Byte → Cells
  | _, [] => []
  | a, v :: r => if v = Config.unlistedByte then cellsOfBytes (a + 1) r else (a, v) :: cellsOfBytes (a + 1) r

end Sys2Proof.Machine
end

