-- ==== Sys2Proof/Machine/Cartridge.lean ====
section
/-!
DEFINITION. The cartridge's memory-bank controllers (20_memory.md section 5): the bank registers' control writes, the mapping of
the two ROM windows and of the external RAM window. Only `bank0`, `bankN` and `mbcControl` tell the variants apart for ROM, only
`extRamCell` and `extRamRead` for RAM.
-/

namespace Sys2Proof.Machine

open Sys2Proof

/-- The fixed fill value (20 R84, R111, R126). -/
def fillByte : Byte := 0xFF

/-- `ROM_BANKS = ceil(len(image) / 0x4000)` (20 R111). -/
def romBanks (c : Cart) : Nat := (c.romLen + 0x3FFF) / 0x4000

/-- The image offset of `rom_phys(bank, off)` (20 R111). DEDUCED, unsafe (log entry 19): every bank number goes through this reduction,
also MBC1's with BANK2 in an image of at most 32 banks, where 20 R115's sentence that BANK2 has no effect holds only if `ROM_BANKS`
divides 32. -/
def romOffset (c : Cart) (bank off : Nat) : Nat := (bank % romBanks c) * 0x4000 + off

/-- `rom_phys(bank, off)`: the image byte, or the fill value past the image's end (20 R111). -/
def romRead (s : State) (bank off : Nat) : Byte :=
  if romOffset s.cart bank off < s.cart.romLen then cellsGet s.mem.rom (romOffset s.cart bank off) else fillByte

/-- `bank0()`: 0, but for MBC1 in mode 1 (20 R74, R115), as R115's pseudocode has it (log entry 19). -/
def bank0 (k : MbcKind) (m : Mbc) : Nat :=
  match k with
  | .mbc1 => if m.mode then m.ramBank.toNat <<< 5 else 0
  | .romOnly | .mbc2 | .mbc3 | .mbc5 => 0

/-- `bankN()` (20 R113, R115, R118, R121, R124), for MBC1 as R115's pseudocode has it (log entry 19). -/
def bankN (k : MbcKind) (m : Mbc) : Nat :=
  match k with
  | .romOnly => 1
  | .mbc1 => (m.ramBank.toNat <<< 5) ||| m.romBank.toNat
  | .mbc2 | .mbc3 | .mbc5 => m.romBank.toNat

/-- The zero-to-one substitution of a ROM bank number (20 R114, R117, R120). -/
def bankNotZero (v : Byte) : BitVec 9 := if v = 0 then 1 else v.setWidth 9

/-- Whether a RAM-enable write of `v` enables (20 R114, R117, R120, R123). -/
def enables (v : Byte) : Bool := v &&& 0x0F == 0x0A

/-- `mbc1_write` (20 R114). -/
def mbc1Control (a : Nat) (v : Byte) (m : Mbc) : Mbc :=
  if a ≤ 0x1FFF then { m with ramEnable := enables v }
  else if a ≤ 0x3FFF then { m with romBank := bankNotZero (v &&& 0x1F) }
  else if a ≤ 0x5FFF then { m with ramBank := (v &&& 0x03).setWidth 4 }
  else { m with mode := v.getLsbD 0 }

/-- `mbc2_write` (20 R117). -/
def mbc2Control (a : Nat) (v : Byte) (m : Mbc) : Mbc :=
  if a ≤ 0x3FFF then
    if a.testBit 8 then { m with romBank := bankNotZero (v &&& 0x0F) } else { m with ramEnable := enables v }
  else m

/-- `mbc3_write` (20 R120). -/
def mbc3Control (a : Nat) (v : Byte) (m : Mbc) : Mbc :=
  if a ≤ 0x1FFF then { m with ramEnable := enables v }
  else if a ≤ 0x3FFF then { m with romBank := bankNotZero (v &&& 0x7F) }
  else if a ≤ 0x5FFF then { m with ramBank := (v &&& 0x0F).setWidth 4 }
  else m

/-- `mbc5_write` (20 R123). -/
def mbc5Control (a : Nat) (v : Byte) (m : Mbc) : Mbc :=
  if a ≤ 0x1FFF then { m with ramEnable := enables v }
  else if a ≤ 0x2FFF then { m with romBank := (m.romBank &&& 0x100) ||| v.setWidth 9 }
  else if a ≤ 0x3FFF then { m with romBank := (m.romBank &&& 0x0FF) ||| ((v &&& 0x01).setWidth 9 <<< 8) }
  else if a ≤ 0x5FFF then { m with ramBank := (v &&& 0x0F).setWidth 4 }
  else m

/-- A control write to the ROM range changes only `mbc` (20 R76, R126). -/
def mbcControl (k : MbcKind) (a : Nat) (v : Byte) (m : Mbc) : Mbc :=
  match k with
  | .romOnly => m
  | .mbc1 => mbc1Control a v m
  | .mbc2 => mbc2Control a v m
  | .mbc3 => mbc3Control a v m
  | .mbc5 => mbc5Control a v m

/-- `ram_phys(bank, off)` for a `RAM_SIZE` above 0 (20 R112). -/
def ramOffset (ramSize bank off : Nat) : Nat := ((bank % max 1 (ramSize / 0x2000)) * 0x2000 + off) % ramSize

/-- The cell of `ext_ram` that offset `off` of the window shows, if it shows one: RAM present, enabled and selected
(20 R113, R116, R119, R122, R125). -/
def extRamCell (c : Cart) (m : Mbc) (off : Nat) : Option Nat :=
  match c.kind with
  | .romOnly => if 0 < c.ramSize then some (ramOffset c.ramSize 0 off) else none
  | .mbc1 =>
    if m.ramEnable && decide (0 < c.ramSize) then some (ramOffset c.ramSize (if m.mode then m.ramBank.toNat else 0) off) else none
  | .mbc2 => if m.ramEnable then some (off % 0x200) else none
  | .mbc3 =>
    if m.ramEnable && decide (m.ramBank.toNat ≤ 0x07) && decide (0 < c.ramSize) then some (ramOffset c.ramSize m.ramBank.toNat off)
    else none
  | .mbc5 => if m.ramEnable && decide (0 < c.ramSize) then some (ramOffset c.ramSize m.ramBank.toNat off) else none

/-- The MBC3 window shows a clock register: the draw `RTC_READ` (20 R122). -/
def rtcSelected (c : Cart) (m : Mbc) : Bool :=
  c.kind == .mbc3 && m.ramEnable && decide (0x08 ≤ m.ramBank.toNat) && decide (m.ramBank.toNat ≤ 0x0C)

/-- MBC2's cells have four bits, the upper nibble reads as 1s (20 R119). -/
def cellReads (k : MbcKind) (v : Byte) : Byte := if k = .mbc2 then 0xF0 ||| v else v

/-- MBC2's cells store four bits (20 R119). -/
def cellStores (k : MbcKind) (v : Byte) : Byte := if k = .mbc2 then v &&& 0x0F else v

/-- `mbc_read_ram(off)` (20 R78). -/
def extRamRead (s : State) (off : Nat) : Byte :=
  if rtcSelected s.cart s.mbc then s.cart.rtcRead
  else
    match extRamCell s.cart s.mbc off with
    | some p => cellReads s.cart.kind (cellsGet s.mem.extRam p)
    | none => fillByte

/-- `mbc_write_ram(off, v)` (20 R78). -/
def extRamWrite (off : Nat) (v : Byte) (s : State) : State :=
  match extRamCell s.cart s.mbc off with
  | some p => { s with mem := { s.mem with extRam := cellsSet s.mem.extRam p (cellStores s.cart.kind v) } }
  | none => s

end Sys2Proof.Machine
end

