-- ==== Sys2Proof/Syntax.lean ====
section
/-!
DEFINITION. The syntax: the operand kinds of the instruction fields (30 R143-R146) and `Instr`, one constructor for each of the
512 rows of spec/opcode_table.json, named after the row's mnemonic. `MemX` in a name is the operand `(X)`. Immediate operands are
arguments: `n` is the byte d8, a8 or e8, `v` the word d16, `a` the address a16 (30 R147).
-/

namespace Sys2Proof

/-- The registers of the 3-bit field `R8[r]`, without `r = 6`, which is memory (30 R143). -/
inductive R8 where
  | b | c | d | e | h | l | a
  deriving DecidableEq, Repr

/-- An 8-bit operand: a register, or the byte in memory at HL (`r = 6`, 30 R143). -/
inductive Operand8 where
  | reg (r : R8)
  | memHl
  deriving DecidableEq, Repr

/-- The data group `R16[p]` (30 R144). -/
inductive R16 where
  | bc | de | hl | sp
  deriving DecidableEq, Repr

/-- The stack group `R16STK[p]` (30 R144). -/
inductive R16Stk where
  | bc | de | hl | af
  deriving DecidableEq, Repr

/-- The indirect group `R16MEM[p]`: the address, and what happens to HL afterwards (30 R145). -/
inductive R16Mem where
  | bc | de | hlInc | hlDec
  deriving DecidableEq, Repr

/-- The condition field `cc` (30 R146). -/
inductive Cond where
  | nz | z | nc | c
  deriving DecidableEq, Repr

/-- The eight ALU operations on A, in the order of their field (41 R240). -/
inductive AluOp where
  | add | adc | sub | sbc | and | xor | or | cp
  deriving DecidableEq, Repr

/-- The rotates and shifts of the extended table, in the order of their field (30 R149). -/
inductive RotOp where
  | rlc | rrc | rl | rr | sla | sra | swap | srl
  deriving DecidableEq, Repr

/-- The instructions, one constructor per row of spec/opcode_table.json: the rows with an operand byte first (the compiled code of a
type this large needs that), then the rest, each in the table's order. -/
inductive Instr where
  | ldBcD16 (v : Word)  -- LD BC,d16, 0x01, R218
  | ldBD8 (n : Byte)  -- LD B,d8, 0x06, R202
  | ldMemA16Sp (a : Word)  -- LD (a16),SP, 0x08, R219
  | ldCD8 (n : Byte)  -- LD C,d8, 0x0E, R202
  | stop (n : Byte)  -- STOP, 0x10, R371
  | ldDeD16 (v : Word)  -- LD DE,d16, 0x11, R218
  | ldDD8 (n : Byte)  -- LD D,d8, 0x16, R202
  | jrE8 (n : Byte)  -- JR e8, 0x18, R334
  | ldED8 (n : Byte)  -- LD E,d8, 0x1E, R202
  | jrNzE8 (n : Byte)  -- JR NZ,e8, 0x20, R335
  | ldHlD16 (v : Word)  -- LD HL,d16, 0x21, R218
  | ldHD8 (n : Byte)  -- LD H,d8, 0x26, R202
  | jrZE8 (n : Byte)  -- JR Z,e8, 0x28, R335
  | ldLD8 (n : Byte)  -- LD L,d8, 0x2E, R202
  | jrNcE8 (n : Byte)  -- JR NC,e8, 0x30, R335
  | ldSpD16 (v : Word)  -- LD SP,d16, 0x31, R218
  | ldMemHlD8 (n : Byte)  -- LD (HL),d8, 0x36, R205
  | jrCE8 (n : Byte)  -- JR C,e8, 0x38, R335
  | ldAD8 (n : Byte)  -- LD A,d8, 0x3E, R202
  | jpNzA16 (a : Word)  -- JP NZ,a16, 0xC2, R332
  | jpA16 (a : Word)  -- JP a16, 0xC3, R331
  | callNzA16 (a : Word)  -- CALL NZ,a16, 0xC4, R337
  | addAD8 (n : Byte)  -- ADD A,d8, 0xC6, R243
  | jpZA16 (a : Word)  -- JP Z,a16, 0xCA, R332
  | prefixCb (op2 : Byte)  -- PREFIX CB, 0xCB, R375
  | callZA16 (a : Word)  -- CALL Z,a16, 0xCC, R337
  | callA16 (a : Word)  -- CALL a16, 0xCD, R336
  | adcAD8 (n : Byte)  -- ADC A,d8, 0xCE, R244
  | jpNcA16 (a : Word)  -- JP NC,a16, 0xD2, R332
  | callNcA16 (a : Word)  -- CALL NC,a16, 0xD4, R337
  | subD8 (n : Byte)  -- SUB d8, 0xD6, R245
  | jpCA16 (a : Word)  -- JP C,a16, 0xDA, R332
  | callCA16 (a : Word)  -- CALL C,a16, 0xDC, R337
  | sbcAD8 (n : Byte)  -- SBC A,d8, 0xDE, R246
  | ldhMemA8A (n : Byte)  -- LDH (a8),A, 0xE0, R215
  | andD8 (n : Byte)  -- AND d8, 0xE6, R247
  | addSpE8 (n : Byte)  -- ADD SP,e8, 0xE8, R284
  | ldMemA16A (a : Word)  -- LD (a16),A, 0xEA, R213
  | xorD8 (n : Byte)  -- XOR d8, 0xEE, R248
  | ldhAMemA8 (n : Byte)  -- LDH A,(a8), 0xF0, R214
  | orD8 (n : Byte)  -- OR d8, 0xF6, R249
  | ldHlSpE8 (n : Byte)  -- LD HL,SP+e8, 0xF8, R285
  | ldAMemA16 (a : Word)  -- LD A,(a16), 0xFA, R212
  | cpD8 (n : Byte)  -- CP d8, 0xFE, R250
  | nop  -- NOP, 0x00, R370
  | ldMemBcA  -- LD (BC),A, 0x02, R207
  | incBc  -- INC BC, 0x03, R281
  | incB  -- INC B, 0x04, R251
  | decB  -- DEC B, 0x05, R253
  | rlca  -- RLCA, 0x07, R301
  | addHlBc  -- ADD HL,BC, 0x09, R280
  | ldAMemBc  -- LD A,(BC), 0x0A, R206
  | decBc  -- DEC BC, 0x0B, R282
  | incC  -- INC C, 0x0C, R251
  | decC  -- DEC C, 0x0D, R253
  | rrca  -- RRCA, 0x0F, R302
  | ldMemDeA  -- LD (DE),A, 0x12, R207
  | incDe  -- INC DE, 0x13, R281
  | incD  -- INC D, 0x14, R251
  | decD  -- DEC D, 0x15, R253
  | rla  -- RLA, 0x17, R303
  | addHlDe  -- ADD HL,DE, 0x19, R280
  | ldAMemDe  -- LD A,(DE), 0x1A, R206
  | decDe  -- DEC DE, 0x1B, R282
  | incE  -- INC E, 0x1C, R251
  | decE  -- DEC E, 0x1D, R253
  | rra  -- RRA, 0x1F, R304
  | ldMemHlIncA  -- LD (HL+),A, 0x22, R210
  | incHl  -- INC HL, 0x23, R281
  | incH  -- INC H, 0x24, R251
  | decH  -- DEC H, 0x25, R253
  | daa  -- DAA, 0x27, R255
  | addHlHl  -- ADD HL,HL, 0x29, R280
  | ldAMemHlInc  -- LD A,(HL+), 0x2A, R208
  | decHl  -- DEC HL, 0x2B, R282
  | incL  -- INC L, 0x2C, R251
  | decL  -- DEC L, 0x2D, R253
  | cpl  -- CPL, 0x2F, R256
  | ldMemHlDecA  -- LD (HL-),A, 0x32, R211
  | incSp  -- INC SP, 0x33, R281
  | incMemHl  -- INC (HL), 0x34, R252
  | decMemHl  -- DEC (HL), 0x35, R254
  | scf  -- SCF, 0x37, R257
  | addHlSp  -- ADD HL,SP, 0x39, R280
  | ldAMemHlDec  -- LD A,(HL-), 0x3A, R209
  | decSp  -- DEC SP, 0x3B, R282
  | incA  -- INC A, 0x3C, R251
  | decA  -- DEC A, 0x3D, R253
  | ccf  -- CCF, 0x3F, R258
  | ldBB  -- LD B,B, 0x40, R201
  | ldBC  -- LD B,C, 0x41, R201
  | ldBD  -- LD B,D, 0x42, R201
  | ldBE  -- LD B,E, 0x43, R201
  | ldBH  -- LD B,H, 0x44, R201
  | ldBL  -- LD B,L, 0x45, R201
  | ldBMemHl  -- LD B,(HL), 0x46, R203
  | ldBA  -- LD B,A, 0x47, R201
  | ldCB  -- LD C,B, 0x48, R201
  | ldCC  -- LD C,C, 0x49, R201
  | ldCD  -- LD C,D, 0x4A, R201
  | ldCE  -- LD C,E, 0x4B, R201
  | ldCH  -- LD C,H, 0x4C, R201
  | ldCL  -- LD C,L, 0x4D, R201
  | ldCMemHl  -- LD C,(HL), 0x4E, R203
  | ldCA  -- LD C,A, 0x4F, R201
  | ldDB  -- LD D,B, 0x50, R201
  | ldDC  -- LD D,C, 0x51, R201
  | ldDD  -- LD D,D, 0x52, R201
  | ldDE  -- LD D,E, 0x53, R201
  | ldDH  -- LD D,H, 0x54, R201
  | ldDL  -- LD D,L, 0x55, R201
  | ldDMemHl  -- LD D,(HL), 0x56, R203
  | ldDA  -- LD D,A, 0x57, R201
  | ldEB  -- LD E,B, 0x58, R201
  | ldEC  -- LD E,C, 0x59, R201
  | ldED  -- LD E,D, 0x5A, R201
  | ldEE  -- LD E,E, 0x5B, R201
  | ldEH  -- LD E,H, 0x5C, R201
  | ldEL  -- LD E,L, 0x5D, R201
  | ldEMemHl  -- LD E,(HL), 0x5E, R203
  | ldEA  -- LD E,A, 0x5F, R201
  | ldHB  -- LD H,B, 0x60, R201
  | ldHC  -- LD H,C, 0x61, R201
  | ldHD  -- LD H,D, 0x62, R201
  | ldHE  -- LD H,E, 0x63, R201
  | ldHH  -- LD H,H, 0x64, R201
  | ldHL  -- LD H,L, 0x65, R201
  | ldHMemHl  -- LD H,(HL), 0x66, R203
  | ldHA  -- LD H,A, 0x67, R201
  | ldLB  -- LD L,B, 0x68, R201
  | ldLC  -- LD L,C, 0x69, R201
  | ldLD  -- LD L,D, 0x6A, R201
  | ldLE  -- LD L,E, 0x6B, R201
  | ldLH  -- LD L,H, 0x6C, R201
  | ldLL  -- LD L,L, 0x6D, R201
  | ldLMemHl  -- LD L,(HL), 0x6E, R203
  | ldLA  -- LD L,A, 0x6F, R201
  | ldMemHlB  -- LD (HL),B, 0x70, R204
  | ldMemHlC  -- LD (HL),C, 0x71, R204
  | ldMemHlD  -- LD (HL),D, 0x72, R204
  | ldMemHlE  -- LD (HL),E, 0x73, R204
  | ldMemHlH  -- LD (HL),H, 0x74, R204
  | ldMemHlL  -- LD (HL),L, 0x75, R204
  | halt  -- HALT, 0x76, R372
  | ldMemHlA  -- LD (HL),A, 0x77, R204
  | ldAB  -- LD A,B, 0x78, R201
  | ldAC  -- LD A,C, 0x79, R201
  | ldAD  -- LD A,D, 0x7A, R201
  | ldAE  -- LD A,E, 0x7B, R201
  | ldAH  -- LD A,H, 0x7C, R201
  | ldAL  -- LD A,L, 0x7D, R201
  | ldAMemHl  -- LD A,(HL), 0x7E, R203
  | ldAA  -- LD A,A, 0x7F, R201
  | addAB  -- ADD A,B, 0x80, R243
  | addAC  -- ADD A,C, 0x81, R243
  | addAD  -- ADD A,D, 0x82, R243
  | addAE  -- ADD A,E, 0x83, R243
  | addAH  -- ADD A,H, 0x84, R243
  | addAL  -- ADD A,L, 0x85, R243
  | addAMemHl  -- ADD A,(HL), 0x86, R243
  | addAA  -- ADD A,A, 0x87, R243
  | adcAB  -- ADC A,B, 0x88, R244
  | adcAC  -- ADC A,C, 0x89, R244
  | adcAD  -- ADC A,D, 0x8A, R244
  | adcAE  -- ADC A,E, 0x8B, R244
  | adcAH  -- ADC A,H, 0x8C, R244
  | adcAL  -- ADC A,L, 0x8D, R244
  | adcAMemHl  -- ADC A,(HL), 0x8E, R244
  | adcAA  -- ADC A,A, 0x8F, R244
  | subB  -- SUB B, 0x90, R245
  | subC  -- SUB C, 0x91, R245
  | subD  -- SUB D, 0x92, R245
  | subE  -- SUB E, 0x93, R245
  | subH  -- SUB H, 0x94, R245
  | subL  -- SUB L, 0x95, R245
  | subMemHl  -- SUB (HL), 0x96, R245
  | subA  -- SUB A, 0x97, R245
  | sbcAB  -- SBC A,B, 0x98, R246
  | sbcAC  -- SBC A,C, 0x99, R246
  | sbcAD  -- SBC A,D, 0x9A, R246
  | sbcAE  -- SBC A,E, 0x9B, R246
  | sbcAH  -- SBC A,H, 0x9C, R246
  | sbcAL  -- SBC A,L, 0x9D, R246
  | sbcAMemHl  -- SBC A,(HL), 0x9E, R246
  | sbcAA  -- SBC A,A, 0x9F, R246
  | andB  -- AND B, 0xA0, R247
  | andC  -- AND C, 0xA1, R247
  | andD  -- AND D, 0xA2, R247
  | andE  -- AND E, 0xA3, R247
  | andH  -- AND H, 0xA4, R247
  | andL  -- AND L, 0xA5, R247
  | andMemHl  -- AND (HL), 0xA6, R247
  | andA  -- AND A, 0xA7, R247
  | xorB  -- XOR B, 0xA8, R248
  | xorC  -- XOR C, 0xA9, R248
  | xorD  -- XOR D, 0xAA, R248
  | xorE  -- XOR E, 0xAB, R248
  | xorH  -- XOR H, 0xAC, R248
  | xorL  -- XOR L, 0xAD, R248
  | xorMemHl  -- XOR (HL), 0xAE, R248
  | xorA  -- XOR A, 0xAF, R248
  | orB  -- OR B, 0xB0, R249
  | orC  -- OR C, 0xB1, R249
  | orD  -- OR D, 0xB2, R249
  | orE  -- OR E, 0xB3, R249
  | orH  -- OR H, 0xB4, R249
  | orL  -- OR L, 0xB5, R249
  | orMemHl  -- OR (HL), 0xB6, R249
  | orA  -- OR A, 0xB7, R249
  | cpB  -- CP B, 0xB8, R250
  | cpC  -- CP C, 0xB9, R250
  | cpD  -- CP D, 0xBA, R250
  | cpE  -- CP E, 0xBB, R250
  | cpH  -- CP H, 0xBC, R250
  | cpL  -- CP L, 0xBD, R250
  | cpMemHl  -- CP (HL), 0xBE, R250
  | cpA  -- CP A, 0xBF, R250
  | retNz  -- RET NZ, 0xC0, R339
  | popBc  -- POP BC, 0xC1, R224
  | pushBc  -- PUSH BC, 0xC5, R223
  | rst00  -- RST 0x00, 0xC7, R341
  | retZ  -- RET Z, 0xC8, R339
  | ret  -- RET, 0xC9, R338
  | rst08  -- RST 0x08, 0xCF, R341
  | retNc  -- RET NC, 0xD0, R339
  | popDe  -- POP DE, 0xD1, R224
  | illegalD3  -- ILLEGAL_D3, 0xD3, R376
  | pushDe  -- PUSH DE, 0xD5, R223
  | rst10  -- RST 0x10, 0xD7, R341
  | retC  -- RET C, 0xD8, R339
  | reti  -- RETI, 0xD9, R340
  | illegalDB  -- ILLEGAL_DB, 0xDB, R376
  | illegalDD  -- ILLEGAL_DD, 0xDD, R376
  | rst18  -- RST 0x18, 0xDF, R341
  | popHl  -- POP HL, 0xE1, R224
  | ldhMemCA  -- LDH (C),A, 0xE2, R217
  | illegalE3  -- ILLEGAL_E3, 0xE3, R376
  | illegalE4  -- ILLEGAL_E4, 0xE4, R376
  | pushHl  -- PUSH HL, 0xE5, R223
  | rst20  -- RST 0x20, 0xE7, R341
  | jpHl  -- JP HL, 0xE9, R333
  | illegalEB  -- ILLEGAL_EB, 0xEB, R376
  | illegalEC  -- ILLEGAL_EC, 0xEC, R376
  | illegalED  -- ILLEGAL_ED, 0xED, R376
  | rst28  -- RST 0x28, 0xEF, R341
  | popAf  -- POP AF, 0xF1, R225
  | ldhAMemC  -- LDH A,(C), 0xF2, R216
  | di  -- DI, 0xF3, R373
  | illegalF4  -- ILLEGAL_F4, 0xF4, R376
  | pushAf  -- PUSH AF, 0xF5, R223
  | rst30  -- RST 0x30, 0xF7, R341
  | ldSpHl  -- LD SP,HL, 0xF9, R220
  | ei  -- EI, 0xFB, R374
  | illegalFC  -- ILLEGAL_FC, 0xFC, R376
  | illegalFD  -- ILLEGAL_FD, 0xFD, R376
  | rst38  -- RST 0x38, 0xFF, R341
  | rlcB  -- RLC B, 0xCB00, R305
  | rlcC  -- RLC C, 0xCB01, R305
  | rlcD  -- RLC D, 0xCB02, R305
  | rlcE  -- RLC E, 0xCB03, R305
  | rlcH  -- RLC H, 0xCB04, R305
  | rlcL  -- RLC L, 0xCB05, R305
  | rlcMemHl  -- RLC (HL), 0xCB06, R305
  | rlcA  -- RLC A, 0xCB07, R305
  | rrcB  -- RRC B, 0xCB08, R306
  | rrcC  -- RRC C, 0xCB09, R306
  | rrcD  -- RRC D, 0xCB0A, R306
  | rrcE  -- RRC E, 0xCB0B, R306
  | rrcH  -- RRC H, 0xCB0C, R306
  | rrcL  -- RRC L, 0xCB0D, R306
  | rrcMemHl  -- RRC (HL), 0xCB0E, R306
  | rrcA  -- RRC A, 0xCB0F, R306
  | rlB  -- RL B, 0xCB10, R307
  | rlC  -- RL C, 0xCB11, R307
  | rlD  -- RL D, 0xCB12, R307
  | rlE  -- RL E, 0xCB13, R307
  | rlH  -- RL H, 0xCB14, R307
  | rlL  -- RL L, 0xCB15, R307
  | rlMemHl  -- RL (HL), 0xCB16, R307
  | rlA  -- RL A, 0xCB17, R307
  | rrB  -- RR B, 0xCB18, R308
  | rrC  -- RR C, 0xCB19, R308
  | rrD  -- RR D, 0xCB1A, R308
  | rrE  -- RR E, 0xCB1B, R308
  | rrH  -- RR H, 0xCB1C, R308
  | rrL  -- RR L, 0xCB1D, R308
  | rrMemHl  -- RR (HL), 0xCB1E, R308
  | rrA  -- RR A, 0xCB1F, R308
  | slaB  -- SLA B, 0xCB20, R309
  | slaC  -- SLA C, 0xCB21, R309
  | slaD  -- SLA D, 0xCB22, R309
  | slaE  -- SLA E, 0xCB23, R309
  | slaH  -- SLA H, 0xCB24, R309
  | slaL  -- SLA L, 0xCB25, R309
  | slaMemHl  -- SLA (HL), 0xCB26, R309
  | slaA  -- SLA A, 0xCB27, R309
  | sraB  -- SRA B, 0xCB28, R310
  | sraC  -- SRA C, 0xCB29, R310
  | sraD  -- SRA D, 0xCB2A, R310
  | sraE  -- SRA E, 0xCB2B, R310
  | sraH  -- SRA H, 0xCB2C, R310
  | sraL  -- SRA L, 0xCB2D, R310
  | sraMemHl  -- SRA (HL), 0xCB2E, R310
  | sraA  -- SRA A, 0xCB2F, R310
  | swapB  -- SWAP B, 0xCB30, R311
  | swapC  -- SWAP C, 0xCB31, R311
  | swapD  -- SWAP D, 0xCB32, R311
  | swapE  -- SWAP E, 0xCB33, R311
  | swapH  -- SWAP H, 0xCB34, R311
  | swapL  -- SWAP L, 0xCB35, R311
  | swapMemHl  -- SWAP (HL), 0xCB36, R311
  | swapA  -- SWAP A, 0xCB37, R311
  | srlB  -- SRL B, 0xCB38, R312
  | srlC  -- SRL C, 0xCB39, R312
  | srlD  -- SRL D, 0xCB3A, R312
  | srlE  -- SRL E, 0xCB3B, R312
  | srlH  -- SRL H, 0xCB3C, R312
  | srlL  -- SRL L, 0xCB3D, R312
  | srlMemHl  -- SRL (HL), 0xCB3E, R312
  | srlA  -- SRL A, 0xCB3F, R312
  | bit0B  -- BIT 0,B, 0xCB40, R313
  | bit0C  -- BIT 0,C, 0xCB41, R313
  | bit0D  -- BIT 0,D, 0xCB42, R313
  | bit0E  -- BIT 0,E, 0xCB43, R313
  | bit0H  -- BIT 0,H, 0xCB44, R313
  | bit0L  -- BIT 0,L, 0xCB45, R313
  | bit0MemHl  -- BIT 0,(HL), 0xCB46, R313
  | bit0A  -- BIT 0,A, 0xCB47, R313
  | bit1B  -- BIT 1,B, 0xCB48, R313
  | bit1C  -- BIT 1,C, 0xCB49, R313
  | bit1D  -- BIT 1,D, 0xCB4A, R313
  | bit1E  -- BIT 1,E, 0xCB4B, R313
  | bit1H  -- BIT 1,H, 0xCB4C, R313
  | bit1L  -- BIT 1,L, 0xCB4D, R313
  | bit1MemHl  -- BIT 1,(HL), 0xCB4E, R313
  | bit1A  -- BIT 1,A, 0xCB4F, R313
  | bit2B  -- BIT 2,B, 0xCB50, R313
  | bit2C  -- BIT 2,C, 0xCB51, R313
  | bit2D  -- BIT 2,D, 0xCB52, R313
  | bit2E  -- BIT 2,E, 0xCB53, R313
  | bit2H  -- BIT 2,H, 0xCB54, R313
  | bit2L  -- BIT 2,L, 0xCB55, R313
  | bit2MemHl  -- BIT 2,(HL), 0xCB56, R313
  | bit2A  -- BIT 2,A, 0xCB57, R313
  | bit3B  -- BIT 3,B, 0xCB58, R313
  | bit3C  -- BIT 3,C, 0xCB59, R313
  | bit3D  -- BIT 3,D, 0xCB5A, R313
  | bit3E  -- BIT 3,E, 0xCB5B, R313
  | bit3H  -- BIT 3,H, 0xCB5C, R313
  | bit3L  -- BIT 3,L, 0xCB5D, R313
  | bit3MemHl  -- BIT 3,(HL), 0xCB5E, R313
  | bit3A  -- BIT 3,A, 0xCB5F, R313
  | bit4B  -- BIT 4,B, 0xCB60, R313
  | bit4C  -- BIT 4,C, 0xCB61, R313
  | bit4D  -- BIT 4,D, 0xCB62, R313
  | bit4E  -- BIT 4,E, 0xCB63, R313
  | bit4H  -- BIT 4,H, 0xCB64, R313
  | bit4L  -- BIT 4,L, 0xCB65, R313
  | bit4MemHl  -- BIT 4,(HL), 0xCB66, R313
  | bit4A  -- BIT 4,A, 0xCB67, R313
  | bit5B  -- BIT 5,B, 0xCB68, R313
  | bit5C  -- BIT 5,C, 0xCB69, R313
  | bit5D  -- BIT 5,D, 0xCB6A, R313
  | bit5E  -- BIT 5,E, 0xCB6B, R313
  | bit5H  -- BIT 5,H, 0xCB6C, R313
  | bit5L  -- BIT 5,L, 0xCB6D, R313
  | bit5MemHl  -- BIT 5,(HL), 0xCB6E, R313
  | bit5A  -- BIT 5,A, 0xCB6F, R313
  | bit6B  -- BIT 6,B, 0xCB70, R313
  | bit6C  -- BIT 6,C, 0xCB71, R313
  | bit6D  -- BIT 6,D, 0xCB72, R313
  | bit6E  -- BIT 6,E, 0xCB73, R313
  | bit6H  -- BIT 6,H, 0xCB74, R313
  | bit6L  -- BIT 6,L, 0xCB75, R313
  | bit6MemHl  -- BIT 6,(HL), 0xCB76, R313
  | bit6A  -- BIT 6,A, 0xCB77, R313
  | bit7B  -- BIT 7,B, 0xCB78, R313
  | bit7C  -- BIT 7,C, 0xCB79, R313
  | bit7D  -- BIT 7,D, 0xCB7A, R313
  | bit7E  -- BIT 7,E, 0xCB7B, R313
  | bit7H  -- BIT 7,H, 0xCB7C, R313
  | bit7L  -- BIT 7,L, 0xCB7D, R313
  | bit7MemHl  -- BIT 7,(HL), 0xCB7E, R313
  | bit7A  -- BIT 7,A, 0xCB7F, R313
  | res0B  -- RES 0,B, 0xCB80, R314
  | res0C  -- RES 0,C, 0xCB81, R314
  | res0D  -- RES 0,D, 0xCB82, R314
  | res0E  -- RES 0,E, 0xCB83, R314
  | res0H  -- RES 0,H, 0xCB84, R314
  | res0L  -- RES 0,L, 0xCB85, R314
  | res0MemHl  -- RES 0,(HL), 0xCB86, R314
  | res0A  -- RES 0,A, 0xCB87, R314
  | res1B  -- RES 1,B, 0xCB88, R314
  | res1C  -- RES 1,C, 0xCB89, R314
  | res1D  -- RES 1,D, 0xCB8A, R314
  | res1E  -- RES 1,E, 0xCB8B, R314
  | res1H  -- RES 1,H, 0xCB8C, R314
  | res1L  -- RES 1,L, 0xCB8D, R314
  | res1MemHl  -- RES 1,(HL), 0xCB8E, R314
  | res1A  -- RES 1,A, 0xCB8F, R314
  | res2B  -- RES 2,B, 0xCB90, R314
  | res2C  -- RES 2,C, 0xCB91, R314
  | res2D  -- RES 2,D, 0xCB92, R314
  | res2E  -- RES 2,E, 0xCB93, R314
  | res2H  -- RES 2,H, 0xCB94, R314
  | res2L  -- RES 2,L, 0xCB95, R314
  | res2MemHl  -- RES 2,(HL), 0xCB96, R314
  | res2A  -- RES 2,A, 0xCB97, R314
  | res3B  -- RES 3,B, 0xCB98, R314
  | res3C  -- RES 3,C, 0xCB99, R314
  | res3D  -- RES 3,D, 0xCB9A, R314
  | res3E  -- RES 3,E, 0xCB9B, R314
  | res3H  -- RES 3,H, 0xCB9C, R314
  | res3L  -- RES 3,L, 0xCB9D, R314
  | res3MemHl  -- RES 3,(HL), 0xCB9E, R314
  | res3A  -- RES 3,A, 0xCB9F, R314
  | res4B  -- RES 4,B, 0xCBA0, R314
  | res4C  -- RES 4,C, 0xCBA1, R314
  | res4D  -- RES 4,D, 0xCBA2, R314
  | res4E  -- RES 4,E, 0xCBA3, R314
  | res4H  -- RES 4,H, 0xCBA4, R314
  | res4L  -- RES 4,L, 0xCBA5, R314
  | res4MemHl  -- RES 4,(HL), 0xCBA6, R314
  | res4A  -- RES 4,A, 0xCBA7, R314
  | res5B  -- RES 5,B, 0xCBA8, R314
  | res5C  -- RES 5,C, 0xCBA9, R314
  | res5D  -- RES 5,D, 0xCBAA, R314
  | res5E  -- RES 5,E, 0xCBAB, R314
  | res5H  -- RES 5,H, 0xCBAC, R314
  | res5L  -- RES 5,L, 0xCBAD, R314
  | res5MemHl  -- RES 5,(HL), 0xCBAE, R314
  | res5A  -- RES 5,A, 0xCBAF, R314
  | res6B  -- RES 6,B, 0xCBB0, R314
  | res6C  -- RES 6,C, 0xCBB1, R314
  | res6D  -- RES 6,D, 0xCBB2, R314
  | res6E  -- RES 6,E, 0xCBB3, R314
  | res6H  -- RES 6,H, 0xCBB4, R314
  | res6L  -- RES 6,L, 0xCBB5, R314
  | res6MemHl  -- RES 6,(HL), 0xCBB6, R314
  | res6A  -- RES 6,A, 0xCBB7, R314
  | res7B  -- RES 7,B, 0xCBB8, R314
  | res7C  -- RES 7,C, 0xCBB9, R314
  | res7D  -- RES 7,D, 0xCBBA, R314
  | res7E  -- RES 7,E, 0xCBBB, R314
  | res7H  -- RES 7,H, 0xCBBC, R314
  | res7L  -- RES 7,L, 0xCBBD, R314
  | res7MemHl  -- RES 7,(HL), 0xCBBE, R314
  | res7A  -- RES 7,A, 0xCBBF, R314
  | set0B  -- SET 0,B, 0xCBC0, R315
  | set0C  -- SET 0,C, 0xCBC1, R315
  | set0D  -- SET 0,D, 0xCBC2, R315
  | set0E  -- SET 0,E, 0xCBC3, R315
  | set0H  -- SET 0,H, 0xCBC4, R315
  | set0L  -- SET 0,L, 0xCBC5, R315
  | set0MemHl  -- SET 0,(HL), 0xCBC6, R315
  | set0A  -- SET 0,A, 0xCBC7, R315
  | set1B  -- SET 1,B, 0xCBC8, R315
  | set1C  -- SET 1,C, 0xCBC9, R315
  | set1D  -- SET 1,D, 0xCBCA, R315
  | set1E  -- SET 1,E, 0xCBCB, R315
  | set1H  -- SET 1,H, 0xCBCC, R315
  | set1L  -- SET 1,L, 0xCBCD, R315
  | set1MemHl  -- SET 1,(HL), 0xCBCE, R315
  | set1A  -- SET 1,A, 0xCBCF, R315
  | set2B  -- SET 2,B, 0xCBD0, R315
  | set2C  -- SET 2,C, 0xCBD1, R315
  | set2D  -- SET 2,D, 0xCBD2, R315
  | set2E  -- SET 2,E, 0xCBD3, R315
  | set2H  -- SET 2,H, 0xCBD4, R315
  | set2L  -- SET 2,L, 0xCBD5, R315
  | set2MemHl  -- SET 2,(HL), 0xCBD6, R315
  | set2A  -- SET 2,A, 0xCBD7, R315
  | set3B  -- SET 3,B, 0xCBD8, R315
  | set3C  -- SET 3,C, 0xCBD9, R315
  | set3D  -- SET 3,D, 0xCBDA, R315
  | set3E  -- SET 3,E, 0xCBDB, R315
  | set3H  -- SET 3,H, 0xCBDC, R315
  | set3L  -- SET 3,L, 0xCBDD, R315
  | set3MemHl  -- SET 3,(HL), 0xCBDE, R315
  | set3A  -- SET 3,A, 0xCBDF, R315
  | set4B  -- SET 4,B, 0xCBE0, R315
  | set4C  -- SET 4,C, 0xCBE1, R315
  | set4D  -- SET 4,D, 0xCBE2, R315
  | set4E  -- SET 4,E, 0xCBE3, R315
  | set4H  -- SET 4,H, 0xCBE4, R315
  | set4L  -- SET 4,L, 0xCBE5, R315
  | set4MemHl  -- SET 4,(HL), 0xCBE6, R315
  | set4A  -- SET 4,A, 0xCBE7, R315
  | set5B  -- SET 5,B, 0xCBE8, R315
  | set5C  -- SET 5,C, 0xCBE9, R315
  | set5D  -- SET 5,D, 0xCBEA, R315
  | set5E  -- SET 5,E, 0xCBEB, R315
  | set5H  -- SET 5,H, 0xCBEC, R315
  | set5L  -- SET 5,L, 0xCBED, R315
  | set5MemHl  -- SET 5,(HL), 0xCBEE, R315
  | set5A  -- SET 5,A, 0xCBEF, R315
  | set6B  -- SET 6,B, 0xCBF0, R315
  | set6C  -- SET 6,C, 0xCBF1, R315
  | set6D  -- SET 6,D, 0xCBF2, R315
  | set6E  -- SET 6,E, 0xCBF3, R315
  | set6H  -- SET 6,H, 0xCBF4, R315
  | set6L  -- SET 6,L, 0xCBF5, R315
  | set6MemHl  -- SET 6,(HL), 0xCBF6, R315
  | set6A  -- SET 6,A, 0xCBF7, R315
  | set7B  -- SET 7,B, 0xCBF8, R315
  | set7C  -- SET 7,C, 0xCBF9, R315
  | set7D  -- SET 7,D, 0xCBFA, R315
  | set7E  -- SET 7,E, 0xCBFB, R315
  | set7H  -- SET 7,H, 0xCBFC, R315
  | set7L  -- SET 7,L, 0xCBFD, R315
  | set7MemHl  -- SET 7,(HL), 0xCBFE, R315
  | set7A  -- SET 7,A, 0xCBFF, R315
  deriving DecidableEq, Repr

end Sys2Proof
end

