-- ==== Sys2Proof/Machine/Flags.lean ====
section
/-!
DEFINITION. The four flags, their places in F, and every computation of a result with its flags: 8-bit addition and subtraction
(41 R241, R242), the ALU operations (41 R243-R250), increment and decrement (R251-R254), DAA, CPL, SCF, CCF (R255-R258), the
16-bit additions (42 R280, R283), the rotates and shifts (43 R301-R312) and BIT (R313). Sums are computed exactly, in Nat, and
reduced at the end.
-/

namespace Sys2Proof.Machine

open Sys2Proof

/-- Z, N, HF and CY (10 R35). -/
structure Flags where
  z : Bool
  n : Bool
  hf : Bool
  cy : Bool
  deriving DecidableEq, Repr

/-- The flags in a value of F: bits 7, 6, 5, 4 (10 R35). -/
def flagsOfByte (f : Byte) : Flags := ⟨bitAt f 7, bitAt f 6, bitAt f 5, bitAt f 4⟩

/-- F with these flags; its low nibble is 0 (10 R34, R35). -/
def byteOfFlags (g : Flags) : Byte :=
  BitVec.ofNat 8 (bitNat g.z * 0x80 + bitNat g.n * 0x40 + bitNat g.hf * 0x20 + bitNat g.cy * 0x10)

/-- `add8(a, b, c)` (41 R241). -/
def add8 (a b : Byte) (c : Bool) : Byte × Flags :=
  let t := a.toNat + b.toNat + bitNat c
  let res := byteOf t
  (res, { z := res == 0, n := false, hf := decide (a.toNat % 16 + b.toNat % 16 + bitNat c > 0x0F), cy := decide (t > 0xFF) })

/-- `sub8(a, b, c)` (41 R242); `256 + a - b - c` is `a - b - c` modulo 256 and never below 0. -/
def sub8 (a b : Byte) (c : Bool) : Byte × Flags :=
  let res := byteOf (256 + a.toNat - b.toNat - bitNat c)
  (res,
    { z := res == 0, n := true, hf := decide (a.toNat % 16 < b.toNat % 16 + bitNat c),
      cy := decide (a.toNat < b.toNat + bitNat c) })

/-- A logical operation's flags: Z from the result, N and CY clear, HF fixed (41 R247-R249). -/
def logicFlags (res : Byte) (hf : Bool) : Flags := { z := res == 0, n := false, hf := hf, cy := false }

/-- What an ALU operation leaves in A, and the flags, for A = `a`, source `b` and carry `cy` before it (41 R243-R250). CP leaves A
as it was (R250). -/
def aluResult (op : AluOp) (a b : Byte) (cy : Bool) : Byte × Flags :=
  match op with
  | .add => add8 a b false
  | .adc => add8 a b cy
  | .sub => sub8 a b false
  | .sbc => sub8 a b cy
  | .and => (a &&& b, logicFlags (a &&& b) true)
  | .xor => (a ^^^ b, logicFlags (a ^^^ b) false)
  | .or => (a ||| b, logicFlags (a ||| b) false)
  | .cp => (a, (sub8 a b false).2)

/-- INC of a byte; CY is kept (41 R251). -/
def inc8 (v : Byte) (g : Flags) : Byte × Flags :=
  (v + 1, { z := v + 1 == 0, n := false, hf := v &&& 0x0F == 0x0F, cy := g.cy })

/-- DEC of a byte; CY is kept (41 R253). -/
def dec8 (v : Byte) (g : Flags) : Byte × Flags :=
  (v - 1, { z := v - 1 == 0, n := true, hf := v &&& 0x0F == 0x00, cy := g.cy })

/-- DAA after an addition: the value and the carry (41 R255). The test of the low digit may read A before the first adjustment, as
adding 0x60 does not change it. -/
def daaAfterAdd (a : Byte) (g : Flags) : Byte × Bool :=
  let high := g.cy || decide (a.toNat > 0x99)
  let a1 := if high then a + 0x60 else a
  (if g.hf || decide (a1.toNat % 16 > 0x09) then a1 + 0x06 else a1, high)

/-- DAA after a subtraction: the value and the carry (41 R255). -/
def daaAfterSub (a : Byte) (g : Flags) : Byte × Bool :=
  let a1 := if g.cy then a - 0x60 else a
  (if g.hf then a1 - 0x06 else a1, g.cy)

/-- DAA (41 R255). -/
def daaResult (a : Byte) (g : Flags) : Byte × Flags :=
  let r := if g.n then daaAfterSub a g else daaAfterAdd a g
  (r.1, { z := r.1 == 0, n := g.n, hf := false, cy := r.2 })

/-- The flags after CPL (41 R256). -/
def cplFlags (g : Flags) : Flags := { g with n := true, hf := true }

/-- The flags after SCF (41 R257). -/
def scfFlags (g : Flags) : Flags := { g with n := false, hf := false, cy := true }

/-- The flags after CCF (41 R258). -/
def ccfFlags (g : Flags) : Flags := { g with n := false, hf := false, cy := !g.cy }

/-- ADD HL,rr: carries out of bits 11 and 15, Z kept (42 R280). -/
def addWord (a b : Word) (g : Flags) : Word × Flags :=
  (BitVec.ofNat 16 (a.toNat + b.toNat),
    { z := g.z, n := false, hf := decide (a.toNat % 0x1000 + b.toNat % 0x1000 > 0x0FFF),
      cy := decide (a.toNat + b.toNat > 0xFFFF) })

/-- `sp_plus(n)`: HF and CY are the carries of the unsigned addition to SP's low byte, Z and N are 0 (42 R283). -/
def spPlus (sp : Word) (n : Byte) : Word × Flags :=
  (sp + sext16 n,
    { z := false, n := false, hf := decide (sp.toNat % 16 + n.toNat % 16 > 0x0F), cy := decide (sp.toNat % 256 + n.toNat > 0xFF) })

/-- The result of a rotate or shift of `v`, and the bit that leaves it, for the carry `cy` before it (43 R301-R312). SWAP clears
the carry (R311). -/
def rotResult (op : RotOp) (v : Byte) (cy : Bool) : Byte × Bool :=
  match op with
  | .rlc => ((v <<< 1) ||| byteOf (bitNat (bitAt v 7)), bitAt v 7)
  | .rrc => ((v >>> 1) ||| (byteOf (bitNat (bitAt v 0)) <<< 7), bitAt v 0)
  | .rl => ((v <<< 1) ||| byteOf (bitNat cy), bitAt v 7)
  | .rr => ((v >>> 1) ||| (byteOf (bitNat cy) <<< 7), bitAt v 0)
  | .sla => (v <<< 1, bitAt v 7)
  | .sra => ((v >>> 1) ||| (v &&& 0x80), bitAt v 0)
  | .swap => (((v &&& 0x0F) <<< 4) ||| (v >>> 4), false)
  | .srl => (v >>> 1, bitAt v 0)

/-- The flags of an extended rotate or shift: Z from the result (43 section 3). -/
def rotFlags (r : Byte × Bool) : Flags := { z := r.1 == 0, n := false, hf := false, cy := r.2 }

/-- The flags of an accumulator rotate: Z is always 0 (43 R301-R304). -/
def accRotFlags (r : Byte × Bool) : Flags := { z := false, n := false, hf := false, cy := r.2 }

/-- The flags of BIT b: Z is the complement of the bit, CY is kept (43 R313). -/
def bitTestFlags (v : Byte) (b : Nat) (g : Flags) : Flags := { z := !bitAt v b, n := false, hf := true, cy := g.cy }

/-- The mask `1 << b` (43 R314, R315). -/
def bitMask (b : Nat) : Byte := (1 : Byte) <<< b

end Sys2Proof.Machine
end

