-- ==== Sys2Proof/Machine/Timer.lean ====
section
/-!
DEFINITION. The timer and divider of 60_exceptions.md section 5. An operation on the timer answers the timer after it and whether
TIMA overflowed, which requests the timer interrupt (60 R434, R436).
-/

namespace Sys2Proof.Machine

open Sys2Proof

/-- The divider bit that TAC's `clock_select` picks (60 R432). -/
def timerSel (tac : BitVec 3) : Nat :=
  match tac.toNat % 4 with
  | 0 => 9
  | 1 => 3
  | 2 => 5
  | _ => 7

/-- The timer signal `sig(d, t) = t[2] AND d[sel(t)]` (60 R432). -/
def timerSig (d : Word) (tac : BitVec 3) : Bool := tac.getLsbD 2 && d.getLsbD (timerSel tac)

/-- `tima_increment()` (60 R434). -/
def timaIncrement (t : Timer) : Timer × Bool :=
  if t.tima = 0xFF then ({ t with tima := 0x00, timaReload := 4 }, true) else ({ t with tima := t.tima + 1 }, false)

/-- `tima_increment()` when the signal falls from `old` to its value now, nothing otherwise (60 R432, R433). -/
def timerEdge (old : Bool) (t : Timer) : Timer × Bool :=
  if old && !timerSig t.divCounter t.tac then timaIncrement t else (t, false)

/-- The reload countdown of one clock (60 R432, R434). -/
def timerReloadTick (t : Timer) : Timer :=
  if t.timaReload = 0 then t
  else if t.timaReload = 1 then { t with timaReload := 0, tima := t.tma }
  else { t with timaReload := t.timaReload - 1 }

/-- `timer_tick()`: one clock (60 R432). -/
def timerTick (t : Timer) : Timer × Bool :=
  let t1 := timerReloadTick t
  timerEdge (timerSig t1.divCounter t1.tac) { t1 with divCounter := t1.divCounter + 1 }

/-- `n` clocks, and whether TIMA overflowed in any of them (60 R437). -/
def timerRun : Nat → Timer → Timer × Bool
  | 0, t => (t, false)
  | n + 1, t =>
    let r := timerTick t
    let q := timerRun n r.1
    (q.1, r.2 || q.2)

/-- `timer_write_div()` (60 R433). -/
def timerWriteDiv (t : Timer) : Timer × Bool :=
  timerEdge (timerSig t.divCounter t.tac) { t with divCounter := 0 }

/-- `timer_write_tac(v)` (60 R433). -/
def timerWriteTac (v : Byte) (t : Timer) : Timer × Bool :=
  timerEdge (timerSig t.divCounter t.tac) { t with tac := v.setWidth 3 }

/-- `timer_write_tima(v)`: a write cancels a pending reload (60 R435). -/
def timerWriteTima (v : Byte) (t : Timer) : Timer := { t with tima := v, timaReload := 0 }

/-- A write of TMA; a pending reload will load the new value (60 R435). -/
def timerWriteTma (v : Byte) (t : Timer) : Timer := { t with tma := v }

end Sys2Proof.Machine
end

