-- ==== Sys2Proof/Machine/Ops.lean ====
section
/-!
DEFINITION. The named operations over the state: registers, flags, the bus, the instruction stream, the stack, interrupt requests,
interrupt entry (60 R423) and return (44 R340), the latching of a failure (60 R410), and the end of a step (60 R400).
-/

namespace Sys2Proof.Machine

open Sys2Proof

/-! ## Registers -/

def setPc (v : Word) (s : State) : State := { s with regs := { s.regs with pc := v } }

def setSp (v : Word) (s : State) : State := { s with regs := { s.regs with sp := v } }

/-- `R8[r]` (30 R143). -/
def readR8 (r : R8) (s : State) : Byte :=
  match r with
  | .b => s.regs.b
  | .c => s.regs.c
  | .d => s.regs.d
  | .e => s.regs.e
  | .h => s.regs.h
  | .l => s.regs.l
  | .a => s.regs.a

/-- `R8[r] <- v` (30 R143). -/
def writeR8 (r : R8) (v : Byte) (s : State) : State :=
  match r with
  | .b => { s with regs := { s.regs with b := v } }
  | .c => { s with regs := { s.regs with c := v } }
  | .d => { s with regs := { s.regs with d := v } }
  | .e => { s with regs := { s.regs with e := v } }
  | .h => { s with regs := { s.regs with h := v } }
  | .l => { s with regs := { s.regs with l := v } }
  | .a => { s with regs := { s.regs with a := v } }

/-- A read of F: bits 3-0 read as 0 (10 R34). -/
def readF (s : State) : Byte := s.regs.f &&& 0xF0

/-- A write of F: it stores `v & 0xF0` (10 R34). -/
def writeF (v : Byte) (s : State) : State := { s with regs := { s.regs with f := v &&& 0xF0 } }

/-- The flags (10 R35). -/
def getFlags (s : State) : Flags := flagsOfByte s.regs.f

/-- The flags written by name (00 R11). -/
def setFlags (g : Flags) (s : State) : State := { s with regs := { s.regs with f := byteOfFlags g } }

/-- `R16[p]`: the first-named register is the high byte (10 R31, 30 R144). -/
def readR16 (p : R16) (s : State) : Word :=
  match p with
  | .bc => pairOf s.regs.b s.regs.c
  | .de => pairOf s.regs.d s.regs.e
  | .hl => pairOf s.regs.h s.regs.l
  | .sp => s.regs.sp

/-- `R16[p] <- v` (10 R31, 30 R144). -/
def writeR16 (p : R16) (v : Word) (s : State) : State :=
  match p with
  | .bc => writeR8 .b (hiByte v) (writeR8 .c (loByte v) s)
  | .de => writeR8 .d (hiByte v) (writeR8 .e (loByte v) s)
  | .hl => writeR8 .h (hiByte v) (writeR8 .l (loByte v) s)
  | .sp => setSp v s

/-- The value of HL (10 R31). -/
def readHl (s : State) : Word := readR16 .hl s

/-- `R16STK[p]` (30 R144); AF is `{A, F}` with F's low nibble 0 (10 R34). -/
def readR16Stk (p : R16Stk) (s : State) : Word :=
  match p with
  | .bc => readR16 .bc s
  | .de => readR16 .de s
  | .hl => readR16 .hl s
  | .af => pairOf s.regs.a (readF s)

/-- `R16STK[p] <- v` (30 R144, 40 R224, R225). -/
def writeR16Stk (p : R16Stk) (v : Word) (s : State) : State :=
  match p with
  | .bc => writeR16 .bc v s
  | .de => writeR16 .de v s
  | .hl => writeR16 .hl v s
  | .af => writeR8 .a (hiByte v) (writeF (loByte v) s)

/-! ## Interrupt requests -/

/-- `request(i)`: bit `i` of IF (60 R420); a bit already set stays set. -/
def requestInterrupt (i : Nat) (s : State) : State := { s with iflag := s.iflag ||| ((1 : BitVec 5) <<< i) }

/-- `IE & IF & 0x1F` (60 R421). IME does not enter it. -/
def pendingInterrupts (s : State) : BitVec 5 := s.ie &&& s.iflag

/-- `lowest_set_bit(pending)`, the winner of the arbiter (60 R422). It is asked only where a bit is set. -/
def lowestSetBit (p : BitVec 5) : Nat :=
  if p.getLsbD 0 then 0 else if p.getLsbD 1 then 1 else if p.getLsbD 2 then 2 else if p.getLsbD 3 then 3 else 4

/-- The vector of source `k` (10 R42, 60 R422). -/
def interruptVector (k : Nat) : Word := BitVec.ofNat 16 (0x0040 + 8 * k)

/-- The state with a timer operation's result; an overflow requests the timer interrupt, source 2 (60 R436). -/
def withTimer (r : Timer × Bool) (s : State) : State :=
  if r.2 then requestInterrupt 2 { s with timer := r.1 } else { s with timer := r.1 }

/-- `timer_advance(n)` (60 R437). -/
def timerAdvance (n : Nat) (s : State) : State := withTimer (timerRun n s.timer) s

/-! ## The bus -/

/-- The eleven regions of the address map (20 R71). -/
inductive Region where
  | rom0 | romx | vram | extRam | wram | echo | oam | gap | io | hram | ie
  deriving DecidableEq, Repr

/-- The region an address belongs to (20 R71). -/
def regionOf (a : Word) : Region :=
  if a.toNat ≤ 0x3FFF then .rom0
  else if a.toNat ≤ 0x7FFF then .romx
  else if a.toNat ≤ 0x9FFF then .vram
  else if a.toNat ≤ 0xBFFF then .extRam
  else if a.toNat ≤ 0xDFFF then .wram
  else if a.toNat ≤ 0xFDFF then .echo
  else if a.toNat ≤ 0xFE9F then .oam
  else if a.toNat ≤ 0xFEFF then .gap
  else if a.toNat ≤ 0xFF7F then .io
  else if a.toNat ≤ 0xFFFE then .hram
  else .ie

/-- `io_read(a)` (20 R85, R86); unused bits of IF and TAC read as 1 (10 R41, R49). -/
def ioRead (a : Nat) (s : State) : Byte :=
  if a = 0xFF04 then hiByte s.timer.divCounter
  else if a = 0xFF05 then s.timer.tima
  else if a = 0xFF06 then s.timer.tma
  else if a = 0xFF07 then 0xF8 ||| s.timer.tac.setWidth 8
  else if a = 0xFF0F then 0xE0 ||| s.iflag.setWidth 8
  else cellsGet s.mem.io a

/-- `io_write(a, v)` (20 R85, R86). -/
def ioWrite (a : Nat) (v : Byte) (s : State) : State :=
  if a = 0xFF04 then withTimer (timerWriteDiv s.timer) s
  else if a = 0xFF05 then { s with timer := timerWriteTima v s.timer }
  else if a = 0xFF06 then { s with timer := timerWriteTma v s.timer }
  else if a = 0xFF07 then withTimer (timerWriteTac v s.timer) s
  else if a = 0xFF0F then { s with iflag := v.setWidth 5 }
  else { s with mem := { s.mem with io := cellsSet s.mem.io a v } }

/-- `MemRead(a, 1)` (20 R72). No read changes any state (20 R90). -/
def memRead (a : Word) (s : State) : Byte :=
  match regionOf a with
  | .rom0 => romRead s (bank0 s.cart.kind s.mbc) a.toNat
  | .romx => romRead s (bankN s.cart.kind s.mbc) (a.toNat - 0x4000)
  | .vram => cellsGet s.mem.vram (a.toNat - 0x8000)
  | .extRam => extRamRead s (a.toNat - 0xA000)
  | .wram => cellsGet s.mem.wram (a.toNat - 0xC000)
  | .echo => cellsGet s.mem.wram (a.toNat - 0xE000)
  | .oam => cellsGet s.mem.oam (a.toNat - 0xFE00)
  | .gap => fillByte
  | .io => ioRead a.toNat s
  | .hram => cellsGet s.mem.hram (a.toNat - 0xFF80)
  | .ie => 0xE0 ||| s.ie.setWidth 8

/-- `MemWrite(a, 1, v)` (20 R73). -/
def memWrite (a : Word) (v : Byte) (s : State) : State :=
  match regionOf a with
  | .rom0 | .romx => { s with mbc := mbcControl s.cart.kind a.toNat v s.mbc }
  | .vram => { s with mem := { s.mem with vram := cellsSet s.mem.vram (a.toNat - 0x8000) v } }
  | .extRam => extRamWrite (a.toNat - 0xA000) v s
  | .wram => { s with mem := { s.mem with wram := cellsSet s.mem.wram (a.toNat - 0xC000) v } }
  | .echo => { s with mem := { s.mem with wram := cellsSet s.mem.wram (a.toNat - 0xE000) v } }
  | .oam => { s with mem := { s.mem with oam := cellsSet s.mem.oam (a.toNat - 0xFE00) v } }
  | .gap => s
  | .io => ioWrite a.toNat v s
  | .hram => { s with mem := { s.mem with hram := cellsSet s.mem.hram (a.toNat - 0xFF80) v } }
  | .ie => { s with ie := v.setWidth 5 }

/-- `MemRead(a, 2)`: the low byte at `a`, the high byte at `a + 1` modulo 65536 (00 R12, 20 R80). -/
def memReadWord (a : Word) (s : State) : Word := pairOf (memRead (a + 1) s) (memRead a s)

/-- `MemWrite(a, 2, v)`: the low byte at `a` first, then the high byte at `a + 1` (00 R12, 20 R81). -/
def memWriteWord (a : Word) (v : Word) (s : State) : State := memWrite (a + 1) (hiByte v) (memWrite a (loByte v) s)

/-! ## The instruction stream -/

/-- The first three bytes the instruction at PC can take. While `halt_bug` is set the opcode fetch does not advance PC, so the
first operand fetch reads the opcode's byte again (60 R404). All are read before the instruction has an effect, as no read changes
any state (20 R90; log entry 16). -/
def fetchBytes (s : State) : Byte × Byte × Byte :=
  let p := if s.haltBug then s.regs.pc else s.regs.pc + 1
  (memRead s.regs.pc s, memRead p s, memRead (p + 1) s)

/-- PC after the fetches of an instruction of `len` bytes: the opcode fetch and each operand fetch advance it by one, but for the
opcode fetch under the HALT bug (00 R13, 60 R404). -/
def pcAfterFetch (len : Nat) (s : State) : Word :=
  s.regs.pc + BitVec.ofNat 16 (if s.haltBug then len - 1 else len)

/-- The state after the fetches of an instruction of `len` bytes; the opcode fetch clears `halt_bug` (60 R404). -/
def afterFetch (len : Nat) (s : State) : State := { setPc (pcAfterFetch len s) s with haltBug := false }

/-- An instruction's end: it reports `m` M-cycles (00 R14, 60 R405). -/
def finish (m : Nat) (s : State) : Result := .next { s with cycles := m }

/-! ## The stack -/

/-- `push16(v)`: the high byte at SP-1 first, then the low byte at SP-2 (40 R221). -/
def push16 (v : Word) (s : State) : State :=
  let s1 := setSp (s.regs.sp - 1) s
  let s2 := memWrite s1.regs.sp (hiByte v) s1
  let s3 := setSp (s2.regs.sp - 1) s2
  memWrite s3.regs.sp (loByte v) s3

/-- What `pop16()` reads: the low byte at SP, the high byte at SP+1 (40 R222). -/
def popValue (s : State) : Word := memReadWord s.regs.sp s

/-- SP after `pop16()` (40 R222). -/
def popped (s : State) : State := setSp (s.regs.sp + 2) s

/-! ## Failures, interrupt entry and return -/

/-- `raise UnimplementedOpcode(pc, opcode)`: the state as it was before the step, with the failure latched (10 R45, 60 R410; log
entry 6). It is given the state before the fetch, whose PC is the opcode's address. -/
def raiseUnimplemented (opcode : Byte) (s : State) : Result := .next { s with failure := some ⟨s.regs.pc, opcode⟩ }

/-- The return address that interrupt entry pushes: the HALT itself while `halt_bug` is set (60 R423, R425). -/
def serviceReturn (s : State) : Word := if s.haltBug then s.regs.pc - 1 else s.regs.pc

/-- Interrupt entry for the winner `k` (60 R423), up to its timer advance. -/
def enterInterrupt (k : Nat) (s : State) : State :=
  let s1 := push16 (serviceReturn s) { s with ime := false, imeDelay := 0, haltBug := false }
  setPc (interruptVector k) { s1 with iflag := s1.iflag &&& ~~~((1 : BitVec 5) <<< k) }

/-- `service(k)`: interrupt entry, 20 clocks of timer advance, and 5 more M-cycles reported (60 R423, R424). -/
def service (k : Nat) (s : State) : State :=
  let s1 := timerAdvance 20 (enterInterrupt k s)
  { s1 with cycles := s1.cycles + 5 }

/-- RETI's effect after its fetch: PC popped, IME set at once, a pending EI dropped (44 R340). -/
def returnFromInterrupt (s : State) : State := { setPc (popValue s) (popped s) with ime := true, imeDelay := 0 }

/-! ## The end of a step -/

/-- `ime_countdown()` (60 R403). -/
def imeCountdown (s : State) : State :=
  if s.imeDelay = 0 then s
  else if s.imeDelay = 1 then { s with imeDelay := 0, ime := true }
  else { s with imeDelay := s.imeDelay - 1 }

/-- The check at the end of a step: any pending interrupt wakes HALT, and with IME set the winner is serviced (60 R400, R402,
R422). -/
def interruptCheck (s : State) : State :=
  if pendingInterrupts s = 0 then s
  else if s.ime then service (lowestSetBit (pendingInterrupts s)) { s with halted := false }
  else { s with halted := false }

/-- What a step that does not fail does after its instruction, whose cost is in `cycles` (60 R400). -/
def endOfStep (s : State) : State := interruptCheck (imeCountdown (timerAdvance (4 * s.cycles) s))

end Sys2Proof.Machine
end

