-- ==== Sys2Proof/Machine/Operands.lean ====
section
/-!
DEFINITION. The operand forms: an 8-bit operand that may be memory at HL (30 R143, 43 R300), the indirect group R16MEM (30 R145), the
high page (30 R147), the condition field (30 R146) and the displacement of a relative jump (30 R147).
-/

namespace Sys2Proof.Machine

open Sys2Proof

/-- A read of `R8[r]` or of the byte at HL (30 R143, `cb_read` of 43 R300). -/
def readOperand (o : Operand8) (s : State) : Byte :=
  match o with
  | .reg r => readR8 r s
  | .memHl => memRead (readHl s) s

/-- A write of `R8[r]` or of the byte at HL (30 R143, `cb_write` of 43 R300). -/
def writeOperand (o : Operand8) (v : Byte) (s : State) : State :=
  match o with
  | .reg r => writeR8 r v s
  | .memHl => memWrite (readHl s) v s

/-- The register or memory operand of a 3-bit field's value (30 R143). -/
def operandOfField (r : Nat) : Operand8 :=
  match r with
  | 0 => .reg .b
  | 1 => .reg .c
  | 2 => .reg .d
  | 3 => .reg .e
  | 4 => .reg .h
  | 5 => .reg .l
  | 6 => .memHl
  | _ => .reg .a

/-- The extended table's operation of a 3-bit field's value (30 R149). -/
def rotOfField (y : Nat) : RotOp :=
  match y with
  | 0 => .rlc
  | 1 => .rrc
  | 2 => .rl
  | 3 => .rr
  | 4 => .sla
  | 5 => .sra
  | 6 => .swap
  | _ => .srl

/-- The address `R16MEM[p]` names (30 R145). -/
def indirectAddress (p : R16Mem) (s : State) : Word :=
  match p with
  | .bc => readR16 .bc s
  | .de => readR16 .de s
  | .hlInc => readHl s
  | .hlDec => readHl s

/-- What happens to HL after an access through `R16MEM[p]` (30 R145). -/
def indirectAfter (p : R16Mem) (s : State) : State :=
  match p with
  | .bc => s
  | .de => s
  | .hlInc => writeR16 .hl (readHl s + 1) s
  | .hlDec => writeR16 .hl (readHl s - 1) s

/-- The address `0xFF00 + n` (30 R147). -/
def highPage (n : Byte) : Word := 0xFF00 + zext16 n

/-- `cond(cc)` (30 R146, 44 R330). -/
def condHolds (cc : Cond) (s : State) : Bool :=
  match cc with
  | .nz => !(getFlags s).z
  | .z => (getFlags s).z
  | .nc => !(getFlags s).cy
  | .c => (getFlags s).cy

/-- `(PC + sext_16(n)) mod 65536` (44 R334). -/
def relativeTarget (pc : Word) (n : Byte) : Word := pc + sext16 n

/-- The target of RST for the field `y`: `y * 8` (30 R147). -/
def rstTarget (y : Nat) : Word := BitVec.ofNat 16 (y * 8)

end Sys2Proof.Machine
end

