-- ==== Sys2Proof/Machine/Alu16.lean ====
section
/-!
DEFINITION. 16-bit arithmetic (42_alu16.md): the shared operations, then one meaning for each instruction.
-/

namespace Sys2Proof.Machine

open Sys2Proof

/-- ADD HL,rr (42 R280). -/
def addHl (p : R16) (s : State) : Result :=
  let r := addWord (readHl s) (readR16 p s) (getFlags s)
  finish 2 (setFlags r.2 (writeR16 .hl r.1 (afterFetch 1 s)))

/-- INC rr: no flag changes (42 R281). -/
def incPair (p : R16) (s : State) : Result := finish 2 (writeR16 p (readR16 p s + 1) (afterFetch 1 s))

/-- DEC rr: no flag changes (42 R282). -/
def decPair (p : R16) (s : State) : Result := finish 2 (writeR16 p (readR16 p s - 1) (afterFetch 1 s))

/-- ADD SP,e8 (42 R284). -/
def addSpImm (n : Byte) (s : State) : Result :=
  let r := spPlus s.regs.sp n
  finish 4 (setFlags r.2 (setSp r.1 (afterFetch 2 s)))

/-- LD HL,SP+e8: SP is unchanged (42 R285). -/
def loadHlSpImm (n : Byte) (s : State) : Result :=
  let r := spPlus s.regs.sp n
  finish 3 (setFlags r.2 (writeR16 .hl r.1 (afterFetch 2 s)))

/-- INC BC, 0x03 (42 R281). -/
def execIncBc (s : State) : Result := incPair .bc s

/-- ADD HL,BC, 0x09 (42 R280). -/
def execAddHlBc (s : State) : Result := addHl .bc s

/-- DEC BC, 0x0B (42 R282). -/
def execDecBc (s : State) : Result := decPair .bc s

/-- INC DE, 0x13 (42 R281). -/
def execIncDe (s : State) : Result := incPair .de s

/-- ADD HL,DE, 0x19 (42 R280). -/
def execAddHlDe (s : State) : Result := addHl .de s

/-- DEC DE, 0x1B (42 R282). -/
def execDecDe (s : State) : Result := decPair .de s

/-- INC HL, 0x23 (42 R281). -/
def execIncHl (s : State) : Result := incPair .hl s

/-- ADD HL,HL, 0x29 (42 R280). -/
def execAddHlHl (s : State) : Result := addHl .hl s

/-- DEC HL, 0x2B (42 R282). -/
def execDecHl (s : State) : Result := decPair .hl s

/-- INC SP, 0x33 (42 R281). -/
def execIncSp (s : State) : Result := incPair .sp s

/-- ADD HL,SP, 0x39 (42 R280). -/
def execAddHlSp (s : State) : Result := addHl .sp s

/-- DEC SP, 0x3B (42 R282). -/
def execDecSp (s : State) : Result := decPair .sp s

/-- ADD SP,e8, 0xE8 (42 R284). -/
def execAddSpE8 (n : Byte) (s : State) : Result := addSpImm n s

/-- LD HL,SP+e8, 0xF8 (42 R285). -/
def execLdHlSpE8 (n : Byte) (s : State) : Result := loadHlSpImm n s

end Sys2Proof.Machine
end

