-- ==== Sys2Proof/Machine/Alu8.lean ====
section
/-!
DEFINITION. 8-bit arithmetic and logic (41_alu8.md): the shared operations, then one meaning for each instruction.
-/

namespace Sys2Proof.Machine

open Sys2Proof

/-- An ALU operation on A with source `src`, by an instruction of `len` bytes and `m` M-cycles (41 R240, R243-R250). -/
def aluA (op : AluOp) (src : Byte) (len m : Nat) (s : State) : Result :=
  let r := aluResult op s.regs.a src (getFlags s).cy
  finish m (setFlags r.2 (writeR8 .a r.1 (afterFetch len s)))

/-- The register form (41 R240). -/
def aluReg (op : AluOp) (r : R8) (s : State) : Result := aluA op (readR8 r s) 1 1 s

/-- The memory form (41 R240). -/
def aluMem (op : AluOp) (s : State) : Result := aluA op (memRead (readHl s) s) 1 2 s

/-- The immediate form (41 R240). -/
def aluImm (op : AluOp) (n : Byte) (s : State) : Result := aluA op n 2 2 s

/-- INC r (41 R251). -/
def incReg (r : R8) (s : State) : Result :=
  let q := inc8 (readR8 r s) (getFlags s)
  finish 1 (setFlags q.2 (writeR8 r q.1 (afterFetch 1 s)))

/-- INC (HL): one read, then one write (41 R252). -/
def incMem (s : State) : Result :=
  let q := inc8 (memRead (readHl s) s) (getFlags s)
  finish 3 (setFlags q.2 (memWrite (readHl s) q.1 (afterFetch 1 s)))

/-- DEC r (41 R253). -/
def decReg (r : R8) (s : State) : Result :=
  let q := dec8 (readR8 r s) (getFlags s)
  finish 1 (setFlags q.2 (writeR8 r q.1 (afterFetch 1 s)))

/-- DEC (HL): one read, then one write (41 R254). -/
def decMem (s : State) : Result :=
  let q := dec8 (memRead (readHl s) s) (getFlags s)
  finish 3 (setFlags q.2 (memWrite (readHl s) q.1 (afterFetch 1 s)))

/-- DAA (41 R255). -/
def daaA (s : State) : Result :=
  let r := daaResult s.regs.a (getFlags s)
  finish 1 (setFlags r.2 (writeR8 .a r.1 (afterFetch 1 s)))

/-- CPL (41 R256). -/
def cplA (s : State) : Result := finish 1 (setFlags (cplFlags (getFlags s)) (writeR8 .a (~~~s.regs.a) (afterFetch 1 s)))

/-- SCF (41 R257). -/
def setCarry (s : State) : Result := finish 1 (setFlags (scfFlags (getFlags s)) (afterFetch 1 s))

/-- CCF (41 R258). -/
def complementCarry (s : State) : Result := finish 1 (setFlags (ccfFlags (getFlags s)) (afterFetch 1 s))

/-- INC B, 0x04 (41 R251). -/
def execIncB (s : State) : Result := incReg .b s

/-- DEC B, 0x05 (41 R253). -/
def execDecB (s : State) : Result := decReg .b s

/-- INC C, 0x0C (41 R251). -/
def execIncC (s : State) : Result := incReg .c s

/-- DEC C, 0x0D (41 R253). -/
def execDecC (s : State) : Result := decReg .c s

/-- INC D, 0x14 (41 R251). -/
def execIncD (s : State) : Result := incReg .d s

/-- DEC D, 0x15 (41 R253). -/
def execDecD (s : State) : Result := decReg .d s

/-- INC E, 0x1C (41 R251). -/
def execIncE (s : State) : Result := incReg .e s

/-- DEC E, 0x1D (41 R253). -/
def execDecE (s : State) : Result := decReg .e s

/-- INC H, 0x24 (41 R251). -/
def execIncH (s : State) : Result := incReg .h s

/-- DEC H, 0x25 (41 R253). -/
def execDecH (s : State) : Result := decReg .h s

/-- DAA, 0x27 (41 R255). -/
def execDaa (s : State) : Result := daaA s

/-- INC L, 0x2C (41 R251). -/
def execIncL (s : State) : Result := incReg .l s

/-- DEC L, 0x2D (41 R253). -/
def execDecL (s : State) : Result := decReg .l s

/-- CPL, 0x2F (41 R256). -/
def execCpl (s : State) : Result := cplA s

/-- INC (HL), 0x34 (41 R252). -/
def execIncMemHl (s : State) : Result := incMem s

/-- DEC (HL), 0x35 (41 R254). -/
def execDecMemHl (s : State) : Result := decMem s

/-- SCF, 0x37 (41 R257). -/
def execScf (s : State) : Result := setCarry s

/-- INC A, 0x3C (41 R251). -/
def execIncA (s : State) : Result := incReg .a s

/-- DEC A, 0x3D (41 R253). -/
def execDecA (s : State) : Result := decReg .a s

/-- CCF, 0x3F (41 R258). -/
def execCcf (s : State) : Result := complementCarry s

/-- ADD A,B, 0x80 (41 R243). -/
def execAddAB (s : State) : Result := aluReg .add .b s

/-- ADD A,C, 0x81 (41 R243). -/
def execAddAC (s : State) : Result := aluReg .add .c s

/-- ADD A,D, 0x82 (41 R243). -/
def execAddAD (s : State) : Result := aluReg .add .d s

/-- ADD A,E, 0x83 (41 R243). -/
def execAddAE (s : State) : Result := aluReg .add .e s

/-- ADD A,H, 0x84 (41 R243). -/
def execAddAH (s : State) : Result := aluReg .add .h s

/-- ADD A,L, 0x85 (41 R243). -/
def execAddAL (s : State) : Result := aluReg .add .l s

/-- ADD A,(HL), 0x86 (41 R243). -/
def execAddAMemHl (s : State) : Result := aluMem .add s

/-- ADD A,A, 0x87 (41 R243). -/
def execAddAA (s : State) : Result := aluReg .add .a s

/-- ADC A,B, 0x88 (41 R244). -/
def execAdcAB (s : State) : Result := aluReg .adc .b s

/-- ADC A,C, 0x89 (41 R244). -/
def execAdcAC (s : State) : Result := aluReg .adc .c s

/-- ADC A,D, 0x8A (41 R244). -/
def execAdcAD (s : State) : Result := aluReg .adc .d s

/-- ADC A,E, 0x8B (41 R244). -/
def execAdcAE (s : State) : Result := aluReg .adc .e s

/-- ADC A,H, 0x8C (41 R244). -/
def execAdcAH (s : State) : Result := aluReg .adc .h s

/-- ADC A,L, 0x8D (41 R244). -/
def execAdcAL (s : State) : Result := aluReg .adc .l s

/-- ADC A,(HL), 0x8E (41 R244). -/
def execAdcAMemHl (s : State) : Result := aluMem .adc s

/-- ADC A,A, 0x8F (41 R244). -/
def execAdcAA (s : State) : Result := aluReg .adc .a s

/-- SUB B, 0x90 (41 R245). -/
def execSubB (s : State) : Result := aluReg .sub .b s

/-- SUB C, 0x91 (41 R245). -/
def execSubC (s : State) : Result := aluReg .sub .c s

/-- SUB D, 0x92 (41 R245). -/
def execSubD (s : State) : Result := aluReg .sub .d s

/-- SUB E, 0x93 (41 R245). -/
def execSubE (s : State) : Result := aluReg .sub .e s

/-- SUB H, 0x94 (41 R245). -/
def execSubH (s : State) : Result := aluReg .sub .h s

/-- SUB L, 0x95 (41 R245). -/
def execSubL (s : State) : Result := aluReg .sub .l s

/-- SUB (HL), 0x96 (41 R245). -/
def execSubMemHl (s : State) : Result := aluMem .sub s

/-- SUB A, 0x97 (41 R245). -/
def execSubA (s : State) : Result := aluReg .sub .a s

/-- SBC A,B, 0x98 (41 R246). -/
def execSbcAB (s : State) : Result := aluReg .sbc .b s

/-- SBC A,C, 0x99 (41 R246). -/
def execSbcAC (s : State) : Result := aluReg .sbc .c s

/-- SBC A,D, 0x9A (41 R246). -/
def execSbcAD (s : State) : Result := aluReg .sbc .d s

/-- SBC A,E, 0x9B (41 R246). -/
def execSbcAE (s : State) : Result := aluReg .sbc .e s

/-- SBC A,H, 0x9C (41 R246). -/
def execSbcAH (s : State) : Result := aluReg .sbc .h s

/-- SBC A,L, 0x9D (41 R246). -/
def execSbcAL (s : State) : Result := aluReg .sbc .l s

/-- SBC A,(HL), 0x9E (41 R246). -/
def execSbcAMemHl (s : State) : Result := aluMem .sbc s

/-- SBC A,A, 0x9F (41 R246). -/
def execSbcAA (s : State) : Result := aluReg .sbc .a s

/-- AND B, 0xA0 (41 R247). -/
def execAndB (s : State) : Result := aluReg .and .b s

/-- AND C, 0xA1 (41 R247). -/
def execAndC (s : State) : Result := aluReg .and .c s

/-- AND D, 0xA2 (41 R247). -/
def execAndD (s : State) : Result := aluReg .and .d s

/-- AND E, 0xA3 (41 R247). -/
def execAndE (s : State) : Result := aluReg .and .e s

/-- AND H, 0xA4 (41 R247). -/
def execAndH (s : State) : Result := aluReg .and .h s

/-- AND L, 0xA5 (41 R247). -/
def execAndL (s : State) : Result := aluReg .and .l s

/-- AND (HL), 0xA6 (41 R247). -/
def execAndMemHl (s : State) : Result := aluMem .and s

/-- AND A, 0xA7 (41 R247). -/
def execAndA (s : State) : Result := aluReg .and .a s

/-- XOR B, 0xA8 (41 R248). -/
def execXorB (s : State) : Result := aluReg .xor .b s

/-- XOR C, 0xA9 (41 R248). -/
def execXorC (s : State) : Result := aluReg .xor .c s

/-- XOR D, 0xAA (41 R248). -/
def execXorD (s : State) : Result := aluReg .xor .d s

/-- XOR E, 0xAB (41 R248). -/
def execXorE (s : State) : Result := aluReg .xor .e s

/-- XOR H, 0xAC (41 R248). -/
def execXorH (s : State) : Result := aluReg .xor .h s

/-- XOR L, 0xAD (41 R248). -/
def execXorL (s : State) : Result := aluReg .xor .l s

/-- XOR (HL), 0xAE (41 R248). -/
def execXorMemHl (s : State) : Result := aluMem .xor s

/-- XOR A, 0xAF (41 R248). -/
def execXorA (s : State) : Result := aluReg .xor .a s

/-- OR B, 0xB0 (41 R249). -/
def execOrB (s : State) : Result := aluReg .or .b s

/-- OR C, 0xB1 (41 R249). -/
def execOrC (s : State) : Result := aluReg .or .c s

/-- OR D, 0xB2 (41 R249). -/
def execOrD (s : State) : Result := aluReg .or .d s

/-- OR E, 0xB3 (41 R249). -/
def execOrE (s : State) : Result := aluReg .or .e s

/-- OR H, 0xB4 (41 R249). -/
def execOrH (s : State) : Result := aluReg .or .h s

/-- OR L, 0xB5 (41 R249). -/
def execOrL (s : State) : Result := aluReg .or .l s

/-- OR (HL), 0xB6 (41 R249). -/
def execOrMemHl (s : State) : Result := aluMem .or s

/-- OR A, 0xB7 (41 R249). -/
def execOrA (s : State) : Result := aluReg .or .a s

/-- CP B, 0xB8 (41 R250). -/
def execCpB (s : State) : Result := aluReg .cp .b s

/-- CP C, 0xB9 (41 R250). -/
def execCpC (s : State) : Result := aluReg .cp .c s

/-- CP D, 0xBA (41 R250). -/
def execCpD (s : State) : Result := aluReg .cp .d s

/-- CP E, 0xBB (41 R250). -/
def execCpE (s : State) : Result := aluReg .cp .e s

/-- CP H, 0xBC (41 R250). -/
def execCpH (s : State) : Result := aluReg .cp .h s

/-- CP L, 0xBD (41 R250). -/
def execCpL (s : State) : Result := aluReg .cp .l s

/-- CP (HL), 0xBE (41 R250). -/
def execCpMemHl (s : State) : Result := aluMem .cp s

/-- CP A, 0xBF (41 R250). -/
def execCpA (s : State) : Result := aluReg .cp .a s

/-- ADD A,d8, 0xC6 (41 R243). -/
def execAddAD8 (n : Byte) (s : State) : Result := aluImm .add n s

/-- ADC A,d8, 0xCE (41 R244). -/
def execAdcAD8 (n : Byte) (s : State) : Result := aluImm .adc n s

/-- SUB d8, 0xD6 (41 R245). -/
def execSubD8 (n : Byte) (s : State) : Result := aluImm .sub n s

/-- SBC A,d8, 0xDE (41 R246). -/
def execSbcAD8 (n : Byte) (s : State) : Result := aluImm .sbc n s

/-- AND d8, 0xE6 (41 R247). -/
def execAndD8 (n : Byte) (s : State) : Result := aluImm .and n s

/-- XOR d8, 0xEE (41 R248). -/
def execXorD8 (n : Byte) (s : State) : Result := aluImm .xor n s

/-- OR d8, 0xF6 (41 R249). -/
def execOrD8 (n : Byte) (s : State) : Result := aluImm .or n s

/-- CP d8, 0xFE (41 R250). -/
def execCpD8 (n : Byte) (s : State) : Result := aluImm .cp n s

end Sys2Proof.Machine
end

