-- ==== Sys2Proof/Machine/Control.lean ====
section
/-!
DEFINITION. Control transfer (44_control.md): the shared operations, then one meaning for each instruction. A conditional
instruction always fetches its operand bytes and reports the taken cost exactly when its condition holds (44 R330, 70 R496).
-/

namespace Sys2Proof.Machine

open Sys2Proof

/-- JP a16 (44 R331). -/
def jumpTo (a : Word) (s : State) : Result := finish 4 (setPc a (afterFetch 3 s))

/-- JP cc,a16 (44 R332). -/
def jumpIf (cc : Cond) (a : Word) (s : State) : Result :=
  if condHolds cc s then finish 4 (setPc a (afterFetch 3 s)) else finish 3 (afterFetch 3 s)

/-- JP HL: memory is not read (44 R333). -/
def jumpHl (s : State) : Result := finish 1 (setPc (readHl s) (afterFetch 1 s))

/-- JR e8: relative to the address after the instruction (44 R334). -/
def jumpRelative (n : Byte) (s : State) : Result :=
  finish 3 (setPc (relativeTarget (pcAfterFetch 2 s) n) (afterFetch 2 s))

/-- JR cc,e8 (44 R335). -/
def jumpRelativeIf (cc : Cond) (n : Byte) (s : State) : Result :=
  if condHolds cc s then finish 3 (setPc (relativeTarget (pcAfterFetch 2 s) n) (afterFetch 2 s)) else finish 2 (afterFetch 2 s)

/-- The address after an instruction of `len` bytes pushed, and PC set to `a` (44 R336, R341). -/
def callTo (a : Word) (len : Nat) (s : State) : State := setPc a (push16 (pcAfterFetch len s) (afterFetch len s))

/-- CALL a16 (44 R336). -/
def callAlways (a : Word) (s : State) : Result := finish 6 (callTo a 3 s)

/-- CALL cc,a16: not taken, neither SP nor memory changes (44 R337). -/
def callIf (cc : Cond) (a : Word) (s : State) : Result :=
  if condHolds cc s then finish 6 (callTo a 3 s) else finish 3 (afterFetch 3 s)

/-- PC popped, after an instruction of one byte (44 R338). -/
def returned (s : State) : State := setPc (popValue s) (popped (afterFetch 1 s))

/-- RET (44 R338). -/
def returnAlways (s : State) : Result := finish 4 (returned s)

/-- RET cc (44 R339). -/
def returnIf (cc : Cond) (s : State) : Result := if condHolds cc s then finish 5 (returned s) else finish 2 (afterFetch 1 s)

/-- RETI: IME takes effect at once (44 R340). -/
def returnEnabling (s : State) : Result := finish 4 (returnFromInterrupt (afterFetch 1 s))

/-- RST for the field `y` (44 R341). -/
def restart (y : Nat) (s : State) : Result := finish 4 (callTo (rstTarget y) 1 s)

/-- JR e8, 0x18 (44 R334). -/
def execJrE8 (n : Byte) (s : State) : Result := jumpRelative n s

/-- JR NZ,e8, 0x20 (44 R335). -/
def execJrNzE8 (n : Byte) (s : State) : Result := jumpRelativeIf .nz n s

/-- JR Z,e8, 0x28 (44 R335). -/
def execJrZE8 (n : Byte) (s : State) : Result := jumpRelativeIf .z n s

/-- JR NC,e8, 0x30 (44 R335). -/
def execJrNcE8 (n : Byte) (s : State) : Result := jumpRelativeIf .nc n s

/-- JR C,e8, 0x38 (44 R335). -/
def execJrCE8 (n : Byte) (s : State) : Result := jumpRelativeIf .c n s

/-- RET NZ, 0xC0 (44 R339). -/
def execRetNz (s : State) : Result := returnIf .nz s

/-- JP NZ,a16, 0xC2 (44 R332). -/
def execJpNzA16 (a : Word) (s : State) : Result := jumpIf .nz a s

/-- JP a16, 0xC3 (44 R331). -/
def execJpA16 (a : Word) (s : State) : Result := jumpTo a s

/-- CALL NZ,a16, 0xC4 (44 R337). -/
def execCallNzA16 (a : Word) (s : State) : Result := callIf .nz a s

/-- RST 0x00, 0xC7 (44 R341). -/
def execRst00 (s : State) : Result := restart 0 s

/-- RET Z, 0xC8 (44 R339). -/
def execRetZ (s : State) : Result := returnIf .z s

/-- RET, 0xC9 (44 R338). -/
def execRet (s : State) : Result := returnAlways s

/-- JP Z,a16, 0xCA (44 R332). -/
def execJpZA16 (a : Word) (s : State) : Result := jumpIf .z a s

/-- CALL Z,a16, 0xCC (44 R337). -/
def execCallZA16 (a : Word) (s : State) : Result := callIf .z a s

/-- CALL a16, 0xCD (44 R336). -/
def execCallA16 (a : Word) (s : State) : Result := callAlways a s

/-- RST 0x08, 0xCF (44 R341). -/
def execRst08 (s : State) : Result := restart 1 s

/-- RET NC, 0xD0 (44 R339). -/
def execRetNc (s : State) : Result := returnIf .nc s

/-- JP NC,a16, 0xD2 (44 R332). -/
def execJpNcA16 (a : Word) (s : State) : Result := jumpIf .nc a s

/-- CALL NC,a16, 0xD4 (44 R337). -/
def execCallNcA16 (a : Word) (s : State) : Result := callIf .nc a s

/-- RST 0x10, 0xD7 (44 R341). -/
def execRst10 (s : State) : Result := restart 2 s

/-- RET C, 0xD8 (44 R339). -/
def execRetC (s : State) : Result := returnIf .c s

/-- RETI, 0xD9 (44 R340). -/
def execReti (s : State) : Result := returnEnabling s

/-- JP C,a16, 0xDA (44 R332). -/
def execJpCA16 (a : Word) (s : State) : Result := jumpIf .c a s

/-- CALL C,a16, 0xDC (44 R337). -/
def execCallCA16 (a : Word) (s : State) : Result := callIf .c a s

/-- RST 0x18, 0xDF (44 R341). -/
def execRst18 (s : State) : Result := restart 3 s

/-- RST 0x20, 0xE7 (44 R341). -/
def execRst20 (s : State) : Result := restart 4 s

/-- JP HL, 0xE9 (44 R333). -/
def execJpHl (s : State) : Result := jumpHl s

/-- RST 0x28, 0xEF (44 R341). -/
def execRst28 (s : State) : Result := restart 5 s

/-- RST 0x30, 0xF7 (44 R341). -/
def execRst30 (s : State) : Result := restart 6 s

/-- RST 0x38, 0xFF (44 R341). -/
def execRst38 (s : State) : Result := restart 7 s

end Sys2Proof.Machine
end

