-- ==== Sys2Proof/Machine/Loads.lean ====
section
/-!
DEFINITION. Loads, stores and the stack instructions (40_loads.md). The shared operations come first, then one meaning for each
instruction. A meaning is given the state before the fetch; `afterFetch` advances PC. No instruction here writes a flag, but POP AF.
-/

namespace Sys2Proof.Machine

open Sys2Proof

/-- LD r,r': `R8[y] <- R8[z]` (40 R201). -/
def loadReg (dst src : R8) (s : State) : Result := finish 1 (writeR8 dst (readR8 src s) (afterFetch 1 s))

/-- LD r,d8 (40 R202). -/
def loadRegImm (dst : R8) (n : Byte) (s : State) : Result := finish 2 (writeR8 dst n (afterFetch 2 s))

/-- LD r,(HL): the old HL is the address, also for H and L (40 R203). -/
def loadRegMem (dst : R8) (s : State) : Result := finish 2 (writeR8 dst (memRead (readHl s) s) (afterFetch 1 s))

/-- LD (HL),r (40 R204). -/
def storeMemReg (r : R8) (s : State) : Result := finish 2 (memWrite (readHl s) (readR8 r s) (afterFetch 1 s))

/-- LD (HL),d8 (40 R205). -/
def storeMemImm (n : Byte) (s : State) : Result := finish 3 (memWrite (readHl s) n (afterFetch 2 s))

/-- LD A,(rr): A loaded through `R16MEM[p]`, then HL stepped where `p` says so (40 R206, R208, R209). -/
def loadAIndirect (p : R16Mem) (s : State) : Result :=
  finish 2 (indirectAfter p (writeR8 .a (memRead (indirectAddress p s) s) (afterFetch 1 s)))

/-- LD (rr),A: A stored through `R16MEM[p]`, then HL stepped where `p` says so (40 R207, R210, R211). -/
def storeAIndirect (p : R16Mem) (s : State) : Result :=
  finish 2 (indirectAfter p (memWrite (indirectAddress p s) s.regs.a (afterFetch 1 s)))

/-- A loaded from `a` by an instruction of `len` bytes and `m` M-cycles (40 R212, R214, R216). -/
def loadAFrom (a : Word) (len m : Nat) (s : State) : Result := finish m (writeR8 .a (memRead a s) (afterFetch len s))

/-- A stored at `a` by an instruction of `len` bytes and `m` M-cycles (40 R213, R215, R217). -/
def storeATo (a : Word) (len m : Nat) (s : State) : Result := finish m (memWrite a s.regs.a (afterFetch len s))

/-- LD rr,d16 (40 R218). -/
def loadPairImm (p : R16) (v : Word) (s : State) : Result := finish 3 (writeR16 p v (afterFetch 3 s))

/-- LD (a16),SP: the low byte at `a`, then the high byte at `a + 1` (40 R219). -/
def storeSp (a : Word) (s : State) : Result := finish 5 (memWriteWord a s.regs.sp (afterFetch 3 s))

/-- LD SP,HL (40 R220). -/
def loadSpHl (s : State) : Result := finish 2 (setSp (readHl s) (afterFetch 1 s))

/-- PUSH rr (40 R223). -/
def pushPair (p : R16Stk) (s : State) : Result := finish 4 (push16 (readR16Stk p s) (afterFetch 1 s))

/-- POP rr (40 R224), and POP AF, which writes the flags and keeps F's low nibble 0 (40 R225). -/
def popPair (p : R16Stk) (s : State) : Result := finish 3 (writeR16Stk p (popValue s) (popped (afterFetch 1 s)))

/-- LD BC,d16, 0x01 (40 R218). -/
def execLdBcD16 (v : Word) (s : State) : Result := loadPairImm .bc v s

/-- LD (BC),A, 0x02 (40 R207). -/
def execLdMemBcA (s : State) : Result := storeAIndirect .bc s

/-- LD B,d8, 0x06 (40 R202). -/
def execLdBD8 (n : Byte) (s : State) : Result := loadRegImm .b n s

/-- LD (a16),SP, 0x08 (40 R219). -/
def execLdMemA16Sp (a : Word) (s : State) : Result := storeSp a s

/-- LD A,(BC), 0x0A (40 R206). -/
def execLdAMemBc (s : State) : Result := loadAIndirect .bc s

/-- LD C,d8, 0x0E (40 R202). -/
def execLdCD8 (n : Byte) (s : State) : Result := loadRegImm .c n s

/-- LD DE,d16, 0x11 (40 R218). -/
def execLdDeD16 (v : Word) (s : State) : Result := loadPairImm .de v s

/-- LD (DE),A, 0x12 (40 R207). -/
def execLdMemDeA (s : State) : Result := storeAIndirect .de s

/-- LD D,d8, 0x16 (40 R202). -/
def execLdDD8 (n : Byte) (s : State) : Result := loadRegImm .d n s

/-- LD A,(DE), 0x1A (40 R206). -/
def execLdAMemDe (s : State) : Result := loadAIndirect .de s

/-- LD E,d8, 0x1E (40 R202). -/
def execLdED8 (n : Byte) (s : State) : Result := loadRegImm .e n s

/-- LD HL,d16, 0x21 (40 R218). -/
def execLdHlD16 (v : Word) (s : State) : Result := loadPairImm .hl v s

/-- LD (HL+),A, 0x22 (40 R210). -/
def execLdMemHlIncA (s : State) : Result := storeAIndirect .hlInc s

/-- LD H,d8, 0x26 (40 R202). -/
def execLdHD8 (n : Byte) (s : State) : Result := loadRegImm .h n s

/-- LD A,(HL+), 0x2A (40 R208). -/
def execLdAMemHlInc (s : State) : Result := loadAIndirect .hlInc s

/-- LD L,d8, 0x2E (40 R202). -/
def execLdLD8 (n : Byte) (s : State) : Result := loadRegImm .l n s

/-- LD SP,d16, 0x31 (40 R218). -/
def execLdSpD16 (v : Word) (s : State) : Result := loadPairImm .sp v s

/-- LD (HL-),A, 0x32 (40 R211). -/
def execLdMemHlDecA (s : State) : Result := storeAIndirect .hlDec s

/-- LD (HL),d8, 0x36 (40 R205). -/
def execLdMemHlD8 (n : Byte) (s : State) : Result := storeMemImm n s

/-- LD A,(HL-), 0x3A (40 R209). -/
def execLdAMemHlDec (s : State) : Result := loadAIndirect .hlDec s

/-- LD A,d8, 0x3E (40 R202). -/
def execLdAD8 (n : Byte) (s : State) : Result := loadRegImm .a n s

/-- LD B,B, 0x40 (40 R201). -/
def execLdBB (s : State) : Result := loadReg .b .b s

/-- LD B,C, 0x41 (40 R201). -/
def execLdBC (s : State) : Result := loadReg .b .c s

/-- LD B,D, 0x42 (40 R201). -/
def execLdBD (s : State) : Result := loadReg .b .d s

/-- LD B,E, 0x43 (40 R201). -/
def execLdBE (s : State) : Result := loadReg .b .e s

/-- LD B,H, 0x44 (40 R201). -/
def execLdBH (s : State) : Result := loadReg .b .h s

/-- LD B,L, 0x45 (40 R201). -/
def execLdBL (s : State) : Result := loadReg .b .l s

/-- LD B,(HL), 0x46 (40 R203). -/
def execLdBMemHl (s : State) : Result := loadRegMem .b s

/-- LD B,A, 0x47 (40 R201). -/
def execLdBA (s : State) : Result := loadReg .b .a s

/-- LD C,B, 0x48 (40 R201). -/
def execLdCB (s : State) : Result := loadReg .c .b s

/-- LD C,C, 0x49 (40 R201). -/
def execLdCC (s : State) : Result := loadReg .c .c s

/-- LD C,D, 0x4A (40 R201). -/
def execLdCD (s : State) : Result := loadReg .c .d s

/-- LD C,E, 0x4B (40 R201). -/
def execLdCE (s : State) : Result := loadReg .c .e s

/-- LD C,H, 0x4C (40 R201). -/
def execLdCH (s : State) : Result := loadReg .c .h s

/-- LD C,L, 0x4D (40 R201). -/
def execLdCL (s : State) : Result := loadReg .c .l s

/-- LD C,(HL), 0x4E (40 R203). -/
def execLdCMemHl (s : State) : Result := loadRegMem .c s

/-- LD C,A, 0x4F (40 R201). -/
def execLdCA (s : State) : Result := loadReg .c .a s

/-- LD D,B, 0x50 (40 R201). -/
def execLdDB (s : State) : Result := loadReg .d .b s

/-- LD D,C, 0x51 (40 R201). -/
def execLdDC (s : State) : Result := loadReg .d .c s

/-- LD D,D, 0x52 (40 R201). -/
def execLdDD (s : State) : Result := loadReg .d .d s

/-- LD D,E, 0x53 (40 R201). -/
def execLdDE (s : State) : Result := loadReg .d .e s

/-- LD D,H, 0x54 (40 R201). -/
def execLdDH (s : State) : Result := loadReg .d .h s

/-- LD D,L, 0x55 (40 R201). -/
def execLdDL (s : State) : Result := loadReg .d .l s

/-- LD D,(HL), 0x56 (40 R203). -/
def execLdDMemHl (s : State) : Result := loadRegMem .d s

/-- LD D,A, 0x57 (40 R201). -/
def execLdDA (s : State) : Result := loadReg .d .a s

/-- LD E,B, 0x58 (40 R201). -/
def execLdEB (s : State) : Result := loadReg .e .b s

/-- LD E,C, 0x59 (40 R201). -/
def execLdEC (s : State) : Result := loadReg .e .c s

/-- LD E,D, 0x5A (40 R201). -/
def execLdED (s : State) : Result := loadReg .e .d s

/-- LD E,E, 0x5B (40 R201). -/
def execLdEE (s : State) : Result := loadReg .e .e s

/-- LD E,H, 0x5C (40 R201). -/
def execLdEH (s : State) : Result := loadReg .e .h s

/-- LD E,L, 0x5D (40 R201). -/
def execLdEL (s : State) : Result := loadReg .e .l s

/-- LD E,(HL), 0x5E (40 R203). -/
def execLdEMemHl (s : State) : Result := loadRegMem .e s

/-- LD E,A, 0x5F (40 R201). -/
def execLdEA (s : State) : Result := loadReg .e .a s

/-- LD H,B, 0x60 (40 R201). -/
def execLdHB (s : State) : Result := loadReg .h .b s

/-- LD H,C, 0x61 (40 R201). -/
def execLdHC (s : State) : Result := loadReg .h .c s

/-- LD H,D, 0x62 (40 R201). -/
def execLdHD (s : State) : Result := loadReg .h .d s

/-- LD H,E, 0x63 (40 R201). -/
def execLdHE (s : State) : Result := loadReg .h .e s

/-- LD H,H, 0x64 (40 R201). -/
def execLdHH (s : State) : Result := loadReg .h .h s

/-- LD H,L, 0x65 (40 R201). -/
def execLdHL (s : State) : Result := loadReg .h .l s

/-- LD H,(HL), 0x66 (40 R203). -/
def execLdHMemHl (s : State) : Result := loadRegMem .h s

/-- LD H,A, 0x67 (40 R201). -/
def execLdHA (s : State) : Result := loadReg .h .a s

/-- LD L,B, 0x68 (40 R201). -/
def execLdLB (s : State) : Result := loadReg .l .b s

/-- LD L,C, 0x69 (40 R201). -/
def execLdLC (s : State) : Result := loadReg .l .c s

/-- LD L,D, 0x6A (40 R201). -/
def execLdLD (s : State) : Result := loadReg .l .d s

/-- LD L,E, 0x6B (40 R201). -/
def execLdLE (s : State) : Result := loadReg .l .e s

/-- LD L,H, 0x6C (40 R201). -/
def execLdLH (s : State) : Result := loadReg .l .h s

/-- LD L,L, 0x6D (40 R201). -/
def execLdLL (s : State) : Result := loadReg .l .l s

/-- LD L,(HL), 0x6E (40 R203). -/
def execLdLMemHl (s : State) : Result := loadRegMem .l s

/-- LD L,A, 0x6F (40 R201). -/
def execLdLA (s : State) : Result := loadReg .l .a s

/-- LD (HL),B, 0x70 (40 R204). -/
def execLdMemHlB (s : State) : Result := storeMemReg .b s

/-- LD (HL),C, 0x71 (40 R204). -/
def execLdMemHlC (s : State) : Result := storeMemReg .c s

/-- LD (HL),D, 0x72 (40 R204). -/
def execLdMemHlD (s : State) : Result := storeMemReg .d s

/-- LD (HL),E, 0x73 (40 R204). -/
def execLdMemHlE (s : State) : Result := storeMemReg .e s

/-- LD (HL),H, 0x74 (40 R204). -/
def execLdMemHlH (s : State) : Result := storeMemReg .h s

/-- LD (HL),L, 0x75 (40 R204). -/
def execLdMemHlL (s : State) : Result := storeMemReg .l s

/-- LD (HL),A, 0x77 (40 R204). -/
def execLdMemHlA (s : State) : Result := storeMemReg .a s

/-- LD A,B, 0x78 (40 R201). -/
def execLdAB (s : State) : Result := loadReg .a .b s

/-- LD A,C, 0x79 (40 R201). -/
def execLdAC (s : State) : Result := loadReg .a .c s

/-- LD A,D, 0x7A (40 R201). -/
def execLdAD (s : State) : Result := loadReg .a .d s

/-- LD A,E, 0x7B (40 R201). -/
def execLdAE (s : State) : Result := loadReg .a .e s

/-- LD A,H, 0x7C (40 R201). -/
def execLdAH (s : State) : Result := loadReg .a .h s

/-- LD A,L, 0x7D (40 R201). -/
def execLdAL (s : State) : Result := loadReg .a .l s

/-- LD A,(HL), 0x7E (40 R203). -/
def execLdAMemHl (s : State) : Result := loadRegMem .a s

/-- LD A,A, 0x7F (40 R201). -/
def execLdAA (s : State) : Result := loadReg .a .a s

/-- POP BC, 0xC1 (40 R224). -/
def execPopBc (s : State) : Result := popPair .bc s

/-- PUSH BC, 0xC5 (40 R223). -/
def execPushBc (s : State) : Result := pushPair .bc s

/-- POP DE, 0xD1 (40 R224). -/
def execPopDe (s : State) : Result := popPair .de s

/-- PUSH DE, 0xD5 (40 R223). -/
def execPushDe (s : State) : Result := pushPair .de s

/-- LDH (a8),A, 0xE0 (40 R215). -/
def execLdhMemA8A (n : Byte) (s : State) : Result := storeATo (highPage n) 2 3 s

/-- POP HL, 0xE1 (40 R224). -/
def execPopHl (s : State) : Result := popPair .hl s

/-- LDH (C),A, 0xE2 (40 R217). -/
def execLdhMemCA (s : State) : Result := storeATo (highPage s.regs.c) 1 2 s

/-- PUSH HL, 0xE5 (40 R223). -/
def execPushHl (s : State) : Result := pushPair .hl s

/-- LD (a16),A, 0xEA (40 R213). -/
def execLdMemA16A (a : Word) (s : State) : Result := storeATo a 3 4 s

/-- LDH A,(a8), 0xF0 (40 R214). -/
def execLdhAMemA8 (n : Byte) (s : State) : Result := loadAFrom (highPage n) 2 3 s

/-- POP AF, 0xF1 (40 R225). -/
def execPopAf (s : State) : Result := popPair .af s

/-- LDH A,(C), 0xF2 (40 R216). -/
def execLdhAMemC (s : State) : Result := loadAFrom (highPage s.regs.c) 1 2 s

/-- PUSH AF, 0xF5 (40 R223). -/
def execPushAf (s : State) : Result := pushPair .af s

/-- LD SP,HL, 0xF9 (40 R220). -/
def execLdSpHl (s : State) : Result := loadSpHl s

/-- LD A,(a16), 0xFA (40 R212). -/
def execLdAMemA16 (a : Word) (s : State) : Result := loadAFrom a 3 4 s

end Sys2Proof.Machine
end

