-- ==== Sys2Proof/Machine/RotateShiftBit.lean ====
section
/-!
DEFINITION. Rotates, shifts and bit operations (43_rotate_shift_bit.md): the shared operations, then one meaning for each
instruction. The extended forms are two bytes long, the prefix among them.
-/

namespace Sys2Proof.Machine

open Sys2Proof

/-- An accumulator rotate: Z is always 0 (43 R301-R304). -/
def rotateA (op : RotOp) (s : State) : Result :=
  let r := rotResult op s.regs.a (getFlags s).cy
  finish 1 (setFlags (accRotFlags r) (writeR8 .a r.1 (afterFetch 1 s)))

/-- The cost of an extended form that writes its operand back: 2, or 4 for (HL) (43 R300). -/
def writeBackCost (o : Operand8) : Nat :=
  match o with
  | .reg _ => 2
  | .memHl => 4

/-- The cost of BIT: 2, or 3 for (HL) (43 R300, R313). -/
def bitTestCost (o : Operand8) : Nat :=
  match o with
  | .reg _ => 2
  | .memHl => 3

/-- An extended rotate, shift or SWAP: one read, then one write (43 R305-R312). -/
def rotateOperand (op : RotOp) (o : Operand8) (s : State) : Result :=
  let r := rotResult op (readOperand o s) (getFlags s).cy
  finish (writeBackCost o) (setFlags (rotFlags r) (writeOperand o r.1 (afterFetch 2 s)))

/-- BIT b: only a read (43 R313). -/
def testBit (b : Nat) (o : Operand8) (s : State) : Result :=
  finish (bitTestCost o) (setFlags (bitTestFlags (readOperand o s) b (getFlags s)) (afterFetch 2 s))

/-- RES b: flags unchanged (43 R314). -/
def resetBit (b : Nat) (o : Operand8) (s : State) : Result :=
  finish (writeBackCost o) (writeOperand o (readOperand o s &&& ~~~bitMask b) (afterFetch 2 s))

/-- SET b: flags unchanged (43 R315). -/
def setBit (b : Nat) (o : Operand8) (s : State) : Result :=
  finish (writeBackCost o) (writeOperand o (readOperand o s ||| bitMask b) (afterFetch 2 s))

/-- The extended-table instruction of the byte `op2`, by its fields x, y and z (30 R141, R149). -/
def extendedOp (op2 : Byte) (s : State) : Result :=
  let y := op2.toNat / 8 % 8
  let o := operandOfField (op2.toNat % 8)
  match op2.toNat / 64 with
  | 0 => rotateOperand (rotOfField y) o s
  | 1 => testBit y o s
  | 2 => resetBit y o s
  | _ => setBit y o s

/-- RLCA, 0x07 (43 R301). -/
def execRlca (s : State) : Result := rotateA .rlc s

/-- RRCA, 0x0F (43 R302). -/
def execRrca (s : State) : Result := rotateA .rrc s

/-- RLA, 0x17 (43 R303). -/
def execRla (s : State) : Result := rotateA .rl s

/-- RRA, 0x1F (43 R304). -/
def execRra (s : State) : Result := rotateA .rr s

/-- RLC B, 0xCB00 (43 R305). -/
def execRlcB (s : State) : Result := rotateOperand .rlc (.reg .b) s

/-- RLC C, 0xCB01 (43 R305). -/
def execRlcC (s : State) : Result := rotateOperand .rlc (.reg .c) s

/-- RLC D, 0xCB02 (43 R305). -/
def execRlcD (s : State) : Result := rotateOperand .rlc (.reg .d) s

/-- RLC E, 0xCB03 (43 R305). -/
def execRlcE (s : State) : Result := rotateOperand .rlc (.reg .e) s

/-- RLC H, 0xCB04 (43 R305). -/
def execRlcH (s : State) : Result := rotateOperand .rlc (.reg .h) s

/-- RLC L, 0xCB05 (43 R305). -/
def execRlcL (s : State) : Result := rotateOperand .rlc (.reg .l) s

/-- RLC (HL), 0xCB06 (43 R305). -/
def execRlcMemHl (s : State) : Result := rotateOperand .rlc .memHl s

/-- RLC A, 0xCB07 (43 R305). -/
def execRlcA (s : State) : Result := rotateOperand .rlc (.reg .a) s

/-- RRC B, 0xCB08 (43 R306). -/
def execRrcB (s : State) : Result := rotateOperand .rrc (.reg .b) s

/-- RRC C, 0xCB09 (43 R306). -/
def execRrcC (s : State) : Result := rotateOperand .rrc (.reg .c) s

/-- RRC D, 0xCB0A (43 R306). -/
def execRrcD (s : State) : Result := rotateOperand .rrc (.reg .d) s

/-- RRC E, 0xCB0B (43 R306). -/
def execRrcE (s : State) : Result := rotateOperand .rrc (.reg .e) s

/-- RRC H, 0xCB0C (43 R306). -/
def execRrcH (s : State) : Result := rotateOperand .rrc (.reg .h) s

/-- RRC L, 0xCB0D (43 R306). -/
def execRrcL (s : State) : Result := rotateOperand .rrc (.reg .l) s

/-- RRC (HL), 0xCB0E (43 R306). -/
def execRrcMemHl (s : State) : Result := rotateOperand .rrc .memHl s

/-- RRC A, 0xCB0F (43 R306). -/
def execRrcA (s : State) : Result := rotateOperand .rrc (.reg .a) s

/-- RL B, 0xCB10 (43 R307). -/
def execRlB (s : State) : Result := rotateOperand .rl (.reg .b) s

/-- RL C, 0xCB11 (43 R307). -/
def execRlC (s : State) : Result := rotateOperand .rl (.reg .c) s

/-- RL D, 0xCB12 (43 R307). -/
def execRlD (s : State) : Result := rotateOperand .rl (.reg .d) s

/-- RL E, 0xCB13 (43 R307). -/
def execRlE (s : State) : Result := rotateOperand .rl (.reg .e) s

/-- RL H, 0xCB14 (43 R307). -/
def execRlH (s : State) : Result := rotateOperand .rl (.reg .h) s

/-- RL L, 0xCB15 (43 R307). -/
def execRlL (s : State) : Result := rotateOperand .rl (.reg .l) s

/-- RL (HL), 0xCB16 (43 R307). -/
def execRlMemHl (s : State) : Result := rotateOperand .rl .memHl s

/-- RL A, 0xCB17 (43 R307). -/
def execRlA (s : State) : Result := rotateOperand .rl (.reg .a) s

/-- RR B, 0xCB18 (43 R308). -/
def execRrB (s : State) : Result := rotateOperand .rr (.reg .b) s

/-- RR C, 0xCB19 (43 R308). -/
def execRrC (s : State) : Result := rotateOperand .rr (.reg .c) s

/-- RR D, 0xCB1A (43 R308). -/
def execRrD (s : State) : Result := rotateOperand .rr (.reg .d) s

/-- RR E, 0xCB1B (43 R308). -/
def execRrE (s : State) : Result := rotateOperand .rr (.reg .e) s

/-- RR H, 0xCB1C (43 R308). -/
def execRrH (s : State) : Result := rotateOperand .rr (.reg .h) s

/-- RR L, 0xCB1D (43 R308). -/
def execRrL (s : State) : Result := rotateOperand .rr (.reg .l) s

/-- RR (HL), 0xCB1E (43 R308). -/
def execRrMemHl (s : State) : Result := rotateOperand .rr .memHl s

/-- RR A, 0xCB1F (43 R308). -/
def execRrA (s : State) : Result := rotateOperand .rr (.reg .a) s

/-- SLA B, 0xCB20 (43 R309). -/
def execSlaB (s : State) : Result := rotateOperand .sla (.reg .b) s

/-- SLA C, 0xCB21 (43 R309). -/
def execSlaC (s : State) : Result := rotateOperand .sla (.reg .c) s

/-- SLA D, 0xCB22 (43 R309). -/
def execSlaD (s : State) : Result := rotateOperand .sla (.reg .d) s

/-- SLA E, 0xCB23 (43 R309). -/
def execSlaE (s : State) : Result := rotateOperand .sla (.reg .e) s

/-- SLA H, 0xCB24 (43 R309). -/
def execSlaH (s : State) : Result := rotateOperand .sla (.reg .h) s

/-- SLA L, 0xCB25 (43 R309). -/
def execSlaL (s : State) : Result := rotateOperand .sla (.reg .l) s

/-- SLA (HL), 0xCB26 (43 R309). -/
def execSlaMemHl (s : State) : Result := rotateOperand .sla .memHl s

/-- SLA A, 0xCB27 (43 R309). -/
def execSlaA (s : State) : Result := rotateOperand .sla (.reg .a) s

/-- SRA B, 0xCB28 (43 R310). -/
def execSraB (s : State) : Result := rotateOperand .sra (.reg .b) s

/-- SRA C, 0xCB29 (43 R310). -/
def execSraC (s : State) : Result := rotateOperand .sra (.reg .c) s

/-- SRA D, 0xCB2A (43 R310). -/
def execSraD (s : State) : Result := rotateOperand .sra (.reg .d) s

/-- SRA E, 0xCB2B (43 R310). -/
def execSraE (s : State) : Result := rotateOperand .sra (.reg .e) s

/-- SRA H, 0xCB2C (43 R310). -/
def execSraH (s : State) : Result := rotateOperand .sra (.reg .h) s

/-- SRA L, 0xCB2D (43 R310). -/
def execSraL (s : State) : Result := rotateOperand .sra (.reg .l) s

/-- SRA (HL), 0xCB2E (43 R310). -/
def execSraMemHl (s : State) : Result := rotateOperand .sra .memHl s

/-- SRA A, 0xCB2F (43 R310). -/
def execSraA (s : State) : Result := rotateOperand .sra (.reg .a) s

/-- SWAP B, 0xCB30 (43 R311). -/
def execSwapB (s : State) : Result := rotateOperand .swap (.reg .b) s

/-- SWAP C, 0xCB31 (43 R311). -/
def execSwapC (s : State) : Result := rotateOperand .swap (.reg .c) s

/-- SWAP D, 0xCB32 (43 R311). -/
def execSwapD (s : State) : Result := rotateOperand .swap (.reg .d) s

/-- SWAP E, 0xCB33 (43 R311). -/
def execSwapE (s : State) : Result := rotateOperand .swap (.reg .e) s

/-- SWAP H, 0xCB34 (43 R311). -/
def execSwapH (s : State) : Result := rotateOperand .swap (.reg .h) s

/-- SWAP L, 0xCB35 (43 R311). -/
def execSwapL (s : State) : Result := rotateOperand .swap (.reg .l) s

/-- SWAP (HL), 0xCB36 (43 R311). -/
def execSwapMemHl (s : State) : Result := rotateOperand .swap .memHl s

/-- SWAP A, 0xCB37 (43 R311). -/
def execSwapA (s : State) : Result := rotateOperand .swap (.reg .a) s

/-- SRL B, 0xCB38 (43 R312). -/
def execSrlB (s : State) : Result := rotateOperand .srl (.reg .b) s

/-- SRL C, 0xCB39 (43 R312). -/
def execSrlC (s : State) : Result := rotateOperand .srl (.reg .c) s

/-- SRL D, 0xCB3A (43 R312). -/
def execSrlD (s : State) : Result := rotateOperand .srl (.reg .d) s

/-- SRL E, 0xCB3B (43 R312). -/
def execSrlE (s : State) : Result := rotateOperand .srl (.reg .e) s

/-- SRL H, 0xCB3C (43 R312). -/
def execSrlH (s : State) : Result := rotateOperand .srl (.reg .h) s

/-- SRL L, 0xCB3D (43 R312). -/
def execSrlL (s : State) : Result := rotateOperand .srl (.reg .l) s

/-- SRL (HL), 0xCB3E (43 R312). -/
def execSrlMemHl (s : State) : Result := rotateOperand .srl .memHl s

/-- SRL A, 0xCB3F (43 R312). -/
def execSrlA (s : State) : Result := rotateOperand .srl (.reg .a) s

/-- BIT 0,B, 0xCB40 (43 R313). -/
def execBit0B (s : State) : Result := testBit 0 (.reg .b) s

/-- BIT 0,C, 0xCB41 (43 R313). -/
def execBit0C (s : State) : Result := testBit 0 (.reg .c) s

/-- BIT 0,D, 0xCB42 (43 R313). -/
def execBit0D (s : State) : Result := testBit 0 (.reg .d) s

/-- BIT 0,E, 0xCB43 (43 R313). -/
def execBit0E (s : State) : Result := testBit 0 (.reg .e) s

/-- BIT 0,H, 0xCB44 (43 R313). -/
def execBit0H (s : State) : Result := testBit 0 (.reg .h) s

/-- BIT 0,L, 0xCB45 (43 R313). -/
def execBit0L (s : State) : Result := testBit 0 (.reg .l) s

/-- BIT 0,(HL), 0xCB46 (43 R313). -/
def execBit0MemHl (s : State) : Result := testBit 0 .memHl s

/-- BIT 0,A, 0xCB47 (43 R313). -/
def execBit0A (s : State) : Result := testBit 0 (.reg .a) s

/-- BIT 1,B, 0xCB48 (43 R313). -/
def execBit1B (s : State) : Result := testBit 1 (.reg .b) s

/-- BIT 1,C, 0xCB49 (43 R313). -/
def execBit1C (s : State) : Result := testBit 1 (.reg .c) s

/-- BIT 1,D, 0xCB4A (43 R313). -/
def execBit1D (s : State) : Result := testBit 1 (.reg .d) s

/-- BIT 1,E, 0xCB4B (43 R313). -/
def execBit1E (s : State) : Result := testBit 1 (.reg .e) s

/-- BIT 1,H, 0xCB4C (43 R313). -/
def execBit1H (s : State) : Result := testBit 1 (.reg .h) s

/-- BIT 1,L, 0xCB4D (43 R313). -/
def execBit1L (s : State) : Result := testBit 1 (.reg .l) s

/-- BIT 1,(HL), 0xCB4E (43 R313). -/
def execBit1MemHl (s : State) : Result := testBit 1 .memHl s

/-- BIT 1,A, 0xCB4F (43 R313). -/
def execBit1A (s : State) : Result := testBit 1 (.reg .a) s

/-- BIT 2,B, 0xCB50 (43 R313). -/
def execBit2B (s : State) : Result := testBit 2 (.reg .b) s

/-- BIT 2,C, 0xCB51 (43 R313). -/
def execBit2C (s : State) : Result := testBit 2 (.reg .c) s

/-- BIT 2,D, 0xCB52 (43 R313). -/
def execBit2D (s : State) : Result := testBit 2 (.reg .d) s

/-- BIT 2,E, 0xCB53 (43 R313). -/
def execBit2E (s : State) : Result := testBit 2 (.reg .e) s

/-- BIT 2,H, 0xCB54 (43 R313). -/
def execBit2H (s : State) : Result := testBit 2 (.reg .h) s

/-- BIT 2,L, 0xCB55 (43 R313). -/
def execBit2L (s : State) : Result := testBit 2 (.reg .l) s

/-- BIT 2,(HL), 0xCB56 (43 R313). -/
def execBit2MemHl (s : State) : Result := testBit 2 .memHl s

/-- BIT 2,A, 0xCB57 (43 R313). -/
def execBit2A (s : State) : Result := testBit 2 (.reg .a) s

/-- BIT 3,B, 0xCB58 (43 R313). -/
def execBit3B (s : State) : Result := testBit 3 (.reg .b) s

/-- BIT 3,C, 0xCB59 (43 R313). -/
def execBit3C (s : State) : Result := testBit 3 (.reg .c) s

/-- BIT 3,D, 0xCB5A (43 R313). -/
def execBit3D (s : State) : Result := testBit 3 (.reg .d) s

/-- BIT 3,E, 0xCB5B (43 R313). -/
def execBit3E (s : State) : Result := testBit 3 (.reg .e) s

/-- BIT 3,H, 0xCB5C (43 R313). -/
def execBit3H (s : State) : Result := testBit 3 (.reg .h) s

/-- BIT 3,L, 0xCB5D (43 R313). -/
def execBit3L (s : State) : Result := testBit 3 (.reg .l) s

/-- BIT 3,(HL), 0xCB5E (43 R313). -/
def execBit3MemHl (s : State) : Result := testBit 3 .memHl s

/-- BIT 3,A, 0xCB5F (43 R313). -/
def execBit3A (s : State) : Result := testBit 3 (.reg .a) s

/-- BIT 4,B, 0xCB60 (43 R313). -/
def execBit4B (s : State) : Result := testBit 4 (.reg .b) s

/-- BIT 4,C, 0xCB61 (43 R313). -/
def execBit4C (s : State) : Result := testBit 4 (.reg .c) s

/-- BIT 4,D, 0xCB62 (43 R313). -/
def execBit4D (s : State) : Result := testBit 4 (.reg .d) s

/-- BIT 4,E, 0xCB63 (43 R313). -/
def execBit4E (s : State) : Result := testBit 4 (.reg .e) s

/-- BIT 4,H, 0xCB64 (43 R313). -/
def execBit4H (s : State) : Result := testBit 4 (.reg .h) s

/-- BIT 4,L, 0xCB65 (43 R313). -/
def execBit4L (s : State) : Result := testBit 4 (.reg .l) s

/-- BIT 4,(HL), 0xCB66 (43 R313). -/
def execBit4MemHl (s : State) : Result := testBit 4 .memHl s

/-- BIT 4,A, 0xCB67 (43 R313). -/
def execBit4A (s : State) : Result := testBit 4 (.reg .a) s

/-- BIT 5,B, 0xCB68 (43 R313). -/
def execBit5B (s : State) : Result := testBit 5 (.reg .b) s

/-- BIT 5,C, 0xCB69 (43 R313). -/
def execBit5C (s : State) : Result := testBit 5 (.reg .c) s

/-- BIT 5,D, 0xCB6A (43 R313). -/
def execBit5D (s : State) : Result := testBit 5 (.reg .d) s

/-- BIT 5,E, 0xCB6B (43 R313). -/
def execBit5E (s : State) : Result := testBit 5 (.reg .e) s

/-- BIT 5,H, 0xCB6C (43 R313). -/
def execBit5H (s : State) : Result := testBit 5 (.reg .h) s

/-- BIT 5,L, 0xCB6D (43 R313). -/
def execBit5L (s : State) : Result := testBit 5 (.reg .l) s

/-- BIT 5,(HL), 0xCB6E (43 R313). -/
def execBit5MemHl (s : State) : Result := testBit 5 .memHl s

/-- BIT 5,A, 0xCB6F (43 R313). -/
def execBit5A (s : State) : Result := testBit 5 (.reg .a) s

/-- BIT 6,B, 0xCB70 (43 R313). -/
def execBit6B (s : State) : Result := testBit 6 (.reg .b) s

/-- BIT 6,C, 0xCB71 (43 R313). -/
def execBit6C (s : State) : Result := testBit 6 (.reg .c) s

/-- BIT 6,D, 0xCB72 (43 R313). -/
def execBit6D (s : State) : Result := testBit 6 (.reg .d) s

/-- BIT 6,E, 0xCB73 (43 R313). -/
def execBit6E (s : State) : Result := testBit 6 (.reg .e) s

/-- BIT 6,H, 0xCB74 (43 R313). -/
def execBit6H (s : State) : Result := testBit 6 (.reg .h) s

/-- BIT 6,L, 0xCB75 (43 R313). -/
def execBit6L (s : State) : Result := testBit 6 (.reg .l) s

/-- BIT 6,(HL), 0xCB76 (43 R313). -/
def execBit6MemHl (s : State) : Result := testBit 6 .memHl s

/-- BIT 6,A, 0xCB77 (43 R313). -/
def execBit6A (s : State) : Result := testBit 6 (.reg .a) s

/-- BIT 7,B, 0xCB78 (43 R313). -/
def execBit7B (s : State) : Result := testBit 7 (.reg .b) s

/-- BIT 7,C, 0xCB79 (43 R313). -/
def execBit7C (s : State) : Result := testBit 7 (.reg .c) s

/-- BIT 7,D, 0xCB7A (43 R313). -/
def execBit7D (s : State) : Result := testBit 7 (.reg .d) s

/-- BIT 7,E, 0xCB7B (43 R313). -/
def execBit7E (s : State) : Result := testBit 7 (.reg .e) s

/-- BIT 7,H, 0xCB7C (43 R313). -/
def execBit7H (s : State) : Result := testBit 7 (.reg .h) s

/-- BIT 7,L, 0xCB7D (43 R313). -/
def execBit7L (s : State) : Result := testBit 7 (.reg .l) s

/-- BIT 7,(HL), 0xCB7E (43 R313). -/
def execBit7MemHl (s : State) : Result := testBit 7 .memHl s

/-- BIT 7,A, 0xCB7F (43 R313). -/
def execBit7A (s : State) : Result := testBit 7 (.reg .a) s

/-- RES 0,B, 0xCB80 (43 R314). -/
def execRes0B (s : State) : Result := resetBit 0 (.reg .b) s

/-- RES 0,C, 0xCB81 (43 R314). -/
def execRes0C (s : State) : Result := resetBit 0 (.reg .c) s

/-- RES 0,D, 0xCB82 (43 R314). -/
def execRes0D (s : State) : Result := resetBit 0 (.reg .d) s

/-- RES 0,E, 0xCB83 (43 R314). -/
def execRes0E (s : State) : Result := resetBit 0 (.reg .e) s

/-- RES 0,H, 0xCB84 (43 R314). -/
def execRes0H (s : State) : Result := resetBit 0 (.reg .h) s

/-- RES 0,L, 0xCB85 (43 R314). -/
def execRes0L (s : State) : Result := resetBit 0 (.reg .l) s

/-- RES 0,(HL), 0xCB86 (43 R314). -/
def execRes0MemHl (s : State) : Result := resetBit 0 .memHl s

/-- RES 0,A, 0xCB87 (43 R314). -/
def execRes0A (s : State) : Result := resetBit 0 (.reg .a) s

/-- RES 1,B, 0xCB88 (43 R314). -/
def execRes1B (s : State) : Result := resetBit 1 (.reg .b) s

/-- RES 1,C, 0xCB89 (43 R314). -/
def execRes1C (s : State) : Result := resetBit 1 (.reg .c) s

/-- RES 1,D, 0xCB8A (43 R314). -/
def execRes1D (s : State) : Result := resetBit 1 (.reg .d) s

/-- RES 1,E, 0xCB8B (43 R314). -/
def execRes1E (s : State) : Result := resetBit 1 (.reg .e) s

/-- RES 1,H, 0xCB8C (43 R314). -/
def execRes1H (s : State) : Result := resetBit 1 (.reg .h) s

/-- RES 1,L, 0xCB8D (43 R314). -/
def execRes1L (s : State) : Result := resetBit 1 (.reg .l) s

/-- RES 1,(HL), 0xCB8E (43 R314). -/
def execRes1MemHl (s : State) : Result := resetBit 1 .memHl s

/-- RES 1,A, 0xCB8F (43 R314). -/
def execRes1A (s : State) : Result := resetBit 1 (.reg .a) s

/-- RES 2,B, 0xCB90 (43 R314). -/
def execRes2B (s : State) : Result := resetBit 2 (.reg .b) s

/-- RES 2,C, 0xCB91 (43 R314). -/
def execRes2C (s : State) : Result := resetBit 2 (.reg .c) s

/-- RES 2,D, 0xCB92 (43 R314). -/
def execRes2D (s : State) : Result := resetBit 2 (.reg .d) s

/-- RES 2,E, 0xCB93 (43 R314). -/
def execRes2E (s : State) : Result := resetBit 2 (.reg .e) s

/-- RES 2,H, 0xCB94 (43 R314). -/
def execRes2H (s : State) : Result := resetBit 2 (.reg .h) s

/-- RES 2,L, 0xCB95 (43 R314). -/
def execRes2L (s : State) : Result := resetBit 2 (.reg .l) s

/-- RES 2,(HL), 0xCB96 (43 R314). -/
def execRes2MemHl (s : State) : Result := resetBit 2 .memHl s

/-- RES 2,A, 0xCB97 (43 R314). -/
def execRes2A (s : State) : Result := resetBit 2 (.reg .a) s

/-- RES 3,B, 0xCB98 (43 R314). -/
def execRes3B (s : State) : Result := resetBit 3 (.reg .b) s

/-- RES 3,C, 0xCB99 (43 R314). -/
def execRes3C (s : State) : Result := resetBit 3 (.reg .c) s

/-- RES 3,D, 0xCB9A (43 R314). -/
def execRes3D (s : State) : Result := resetBit 3 (.reg .d) s

/-- RES 3,E, 0xCB9B (43 R314). -/
def execRes3E (s : State) : Result := resetBit 3 (.reg .e) s

/-- RES 3,H, 0xCB9C (43 R314). -/
def execRes3H (s : State) : Result := resetBit 3 (.reg .h) s

/-- RES 3,L, 0xCB9D (43 R314). -/
def execRes3L (s : State) : Result := resetBit 3 (.reg .l) s

/-- RES 3,(HL), 0xCB9E (43 R314). -/
def execRes3MemHl (s : State) : Result := resetBit 3 .memHl s

/-- RES 3,A, 0xCB9F (43 R314). -/
def execRes3A (s : State) : Result := resetBit 3 (.reg .a) s

/-- RES 4,B, 0xCBA0 (43 R314). -/
def execRes4B (s : State) : Result := resetBit 4 (.reg .b) s

/-- RES 4,C, 0xCBA1 (43 R314). -/
def execRes4C (s : State) : Result := resetBit 4 (.reg .c) s

/-- RES 4,D, 0xCBA2 (43 R314). -/
def execRes4D (s : State) : Result := resetBit 4 (.reg .d) s

/-- RES 4,E, 0xCBA3 (43 R314). -/
def execRes4E (s : State) : Result := resetBit 4 (.reg .e) s

/-- RES 4,H, 0xCBA4 (43 R314). -/
def execRes4H (s : State) : Result := resetBit 4 (.reg .h) s

/-- RES 4,L, 0xCBA5 (43 R314). -/
def execRes4L (s : State) : Result := resetBit 4 (.reg .l) s

/-- RES 4,(HL), 0xCBA6 (43 R314). -/
def execRes4MemHl (s : State) : Result := resetBit 4 .memHl s

/-- RES 4,A, 0xCBA7 (43 R314). -/
def execRes4A (s : State) : Result := resetBit 4 (.reg .a) s

/-- RES 5,B, 0xCBA8 (43 R314). -/
def execRes5B (s : State) : Result := resetBit 5 (.reg .b) s

/-- RES 5,C, 0xCBA9 (43 R314). -/
def execRes5C (s : State) : Result := resetBit 5 (.reg .c) s

/-- RES 5,D, 0xCBAA (43 R314). -/
def execRes5D (s : State) : Result := resetBit 5 (.reg .d) s

/-- RES 5,E, 0xCBAB (43 R314). -/
def execRes5E (s : State) : Result := resetBit 5 (.reg .e) s

/-- RES 5,H, 0xCBAC (43 R314). -/
def execRes5H (s : State) : Result := resetBit 5 (.reg .h) s

/-- RES 5,L, 0xCBAD (43 R314). -/
def execRes5L (s : State) : Result := resetBit 5 (.reg .l) s

/-- RES 5,(HL), 0xCBAE (43 R314). -/
def execRes5MemHl (s : State) : Result := resetBit 5 .memHl s

/-- RES 5,A, 0xCBAF (43 R314). -/
def execRes5A (s : State) : Result := resetBit 5 (.reg .a) s

/-- RES 6,B, 0xCBB0 (43 R314). -/
def execRes6B (s : State) : Result := resetBit 6 (.reg .b) s

/-- RES 6,C, 0xCBB1 (43 R314). -/
def execRes6C (s : State) : Result := resetBit 6 (.reg .c) s

/-- RES 6,D, 0xCBB2 (43 R314). -/
def execRes6D (s : State) : Result := resetBit 6 (.reg .d) s

/-- RES 6,E, 0xCBB3 (43 R314). -/
def execRes6E (s : State) : Result := resetBit 6 (.reg .e) s

/-- RES 6,H, 0xCBB4 (43 R314). -/
def execRes6H (s : State) : Result := resetBit 6 (.reg .h) s

/-- RES 6,L, 0xCBB5 (43 R314). -/
def execRes6L (s : State) : Result := resetBit 6 (.reg .l) s

/-- RES 6,(HL), 0xCBB6 (43 R314). -/
def execRes6MemHl (s : State) : Result := resetBit 6 .memHl s

/-- RES 6,A, 0xCBB7 (43 R314). -/
def execRes6A (s : State) : Result := resetBit 6 (.reg .a) s

/-- RES 7,B, 0xCBB8 (43 R314). -/
def execRes7B (s : State) : Result := resetBit 7 (.reg .b) s

/-- RES 7,C, 0xCBB9 (43 R314). -/
def execRes7C (s : State) : Result := resetBit 7 (.reg .c) s

/-- RES 7,D, 0xCBBA (43 R314). -/
def execRes7D (s : State) : Result := resetBit 7 (.reg .d) s

/-- RES 7,E, 0xCBBB (43 R314). -/
def execRes7E (s : State) : Result := resetBit 7 (.reg .e) s

/-- RES 7,H, 0xCBBC (43 R314). -/
def execRes7H (s : State) : Result := resetBit 7 (.reg .h) s

/-- RES 7,L, 0xCBBD (43 R314). -/
def execRes7L (s : State) : Result := resetBit 7 (.reg .l) s

/-- RES 7,(HL), 0xCBBE (43 R314). -/
def execRes7MemHl (s : State) : Result := resetBit 7 .memHl s

/-- RES 7,A, 0xCBBF (43 R314). -/
def execRes7A (s : State) : Result := resetBit 7 (.reg .a) s

/-- SET 0,B, 0xCBC0 (43 R315). -/
def execSet0B (s : State) : Result := setBit 0 (.reg .b) s

/-- SET 0,C, 0xCBC1 (43 R315). -/
def execSet0C (s : State) : Result := setBit 0 (.reg .c) s

/-- SET 0,D, 0xCBC2 (43 R315). -/
def execSet0D (s : State) : Result := setBit 0 (.reg .d) s

/-- SET 0,E, 0xCBC3 (43 R315). -/
def execSet0E (s : State) : Result := setBit 0 (.reg .e) s

/-- SET 0,H, 0xCBC4 (43 R315). -/
def execSet0H (s : State) : Result := setBit 0 (.reg .h) s

/-- SET 0,L, 0xCBC5 (43 R315). -/
def execSet0L (s : State) : Result := setBit 0 (.reg .l) s

/-- SET 0,(HL), 0xCBC6 (43 R315). -/
def execSet0MemHl (s : State) : Result := setBit 0 .memHl s

/-- SET 0,A, 0xCBC7 (43 R315). -/
def execSet0A (s : State) : Result := setBit 0 (.reg .a) s

/-- SET 1,B, 0xCBC8 (43 R315). -/
def execSet1B (s : State) : Result := setBit 1 (.reg .b) s

/-- SET 1,C, 0xCBC9 (43 R315). -/
def execSet1C (s : State) : Result := setBit 1 (.reg .c) s

/-- SET 1,D, 0xCBCA (43 R315). -/
def execSet1D (s : State) : Result := setBit 1 (.reg .d) s

/-- SET 1,E, 0xCBCB (43 R315). -/
def execSet1E (s : State) : Result := setBit 1 (.reg .e) s

/-- SET 1,H, 0xCBCC (43 R315). -/
def execSet1H (s : State) : Result := setBit 1 (.reg .h) s

/-- SET 1,L, 0xCBCD (43 R315). -/
def execSet1L (s : State) : Result := setBit 1 (.reg .l) s

/-- SET 1,(HL), 0xCBCE (43 R315). -/
def execSet1MemHl (s : State) : Result := setBit 1 .memHl s

/-- SET 1,A, 0xCBCF (43 R315). -/
def execSet1A (s : State) : Result := setBit 1 (.reg .a) s

/-- SET 2,B, 0xCBD0 (43 R315). -/
def execSet2B (s : State) : Result := setBit 2 (.reg .b) s

/-- SET 2,C, 0xCBD1 (43 R315). -/
def execSet2C (s : State) : Result := setBit 2 (.reg .c) s

/-- SET 2,D, 0xCBD2 (43 R315). -/
def execSet2D (s : State) : Result := setBit 2 (.reg .d) s

/-- SET 2,E, 0xCBD3 (43 R315). -/
def execSet2E (s : State) : Result := setBit 2 (.reg .e) s

/-- SET 2,H, 0xCBD4 (43 R315). -/
def execSet2H (s : State) : Result := setBit 2 (.reg .h) s

/-- SET 2,L, 0xCBD5 (43 R315). -/
def execSet2L (s : State) : Result := setBit 2 (.reg .l) s

/-- SET 2,(HL), 0xCBD6 (43 R315). -/
def execSet2MemHl (s : State) : Result := setBit 2 .memHl s

/-- SET 2,A, 0xCBD7 (43 R315). -/
def execSet2A (s : State) : Result := setBit 2 (.reg .a) s

/-- SET 3,B, 0xCBD8 (43 R315). -/
def execSet3B (s : State) : Result := setBit 3 (.reg .b) s

/-- SET 3,C, 0xCBD9 (43 R315). -/
def execSet3C (s : State) : Result := setBit 3 (.reg .c) s

/-- SET 3,D, 0xCBDA (43 R315). -/
def execSet3D (s : State) : Result := setBit 3 (.reg .d) s

/-- SET 3,E, 0xCBDB (43 R315). -/
def execSet3E (s : State) : Result := setBit 3 (.reg .e) s

/-- SET 3,H, 0xCBDC (43 R315). -/
def execSet3H (s : State) : Result := setBit 3 (.reg .h) s

/-- SET 3,L, 0xCBDD (43 R315). -/
def execSet3L (s : State) : Result := setBit 3 (.reg .l) s

/-- SET 3,(HL), 0xCBDE (43 R315). -/
def execSet3MemHl (s : State) : Result := setBit 3 .memHl s

/-- SET 3,A, 0xCBDF (43 R315). -/
def execSet3A (s : State) : Result := setBit 3 (.reg .a) s

/-- SET 4,B, 0xCBE0 (43 R315). -/
def execSet4B (s : State) : Result := setBit 4 (.reg .b) s

/-- SET 4,C, 0xCBE1 (43 R315). -/
def execSet4C (s : State) : Result := setBit 4 (.reg .c) s

/-- SET 4,D, 0xCBE2 (43 R315). -/
def execSet4D (s : State) : Result := setBit 4 (.reg .d) s

/-- SET 4,E, 0xCBE3 (43 R315). -/
def execSet4E (s : State) : Result := setBit 4 (.reg .e) s

/-- SET 4,H, 0xCBE4 (43 R315). -/
def execSet4H (s : State) : Result := setBit 4 (.reg .h) s

/-- SET 4,L, 0xCBE5 (43 R315). -/
def execSet4L (s : State) : Result := setBit 4 (.reg .l) s

/-- SET 4,(HL), 0xCBE6 (43 R315). -/
def execSet4MemHl (s : State) : Result := setBit 4 .memHl s

/-- SET 4,A, 0xCBE7 (43 R315). -/
def execSet4A (s : State) : Result := setBit 4 (.reg .a) s

/-- SET 5,B, 0xCBE8 (43 R315). -/
def execSet5B (s : State) : Result := setBit 5 (.reg .b) s

/-- SET 5,C, 0xCBE9 (43 R315). -/
def execSet5C (s : State) : Result := setBit 5 (.reg .c) s

/-- SET 5,D, 0xCBEA (43 R315). -/
def execSet5D (s : State) : Result := setBit 5 (.reg .d) s

/-- SET 5,E, 0xCBEB (43 R315). -/
def execSet5E (s : State) : Result := setBit 5 (.reg .e) s

/-- SET 5,H, 0xCBEC (43 R315). -/
def execSet5H (s : State) : Result := setBit 5 (.reg .h) s

/-- SET 5,L, 0xCBED (43 R315). -/
def execSet5L (s : State) : Result := setBit 5 (.reg .l) s

/-- SET 5,(HL), 0xCBEE (43 R315). -/
def execSet5MemHl (s : State) : Result := setBit 5 .memHl s

/-- SET 5,A, 0xCBEF (43 R315). -/
def execSet5A (s : State) : Result := setBit 5 (.reg .a) s

/-- SET 6,B, 0xCBF0 (43 R315). -/
def execSet6B (s : State) : Result := setBit 6 (.reg .b) s

/-- SET 6,C, 0xCBF1 (43 R315). -/
def execSet6C (s : State) : Result := setBit 6 (.reg .c) s

/-- SET 6,D, 0xCBF2 (43 R315). -/
def execSet6D (s : State) : Result := setBit 6 (.reg .d) s

/-- SET 6,E, 0xCBF3 (43 R315). -/
def execSet6E (s : State) : Result := setBit 6 (.reg .e) s

/-- SET 6,H, 0xCBF4 (43 R315). -/
def execSet6H (s : State) : Result := setBit 6 (.reg .h) s

/-- SET 6,L, 0xCBF5 (43 R315). -/
def execSet6L (s : State) : Result := setBit 6 (.reg .l) s

/-- SET 6,(HL), 0xCBF6 (43 R315). -/
def execSet6MemHl (s : State) : Result := setBit 6 .memHl s

/-- SET 6,A, 0xCBF7 (43 R315). -/
def execSet6A (s : State) : Result := setBit 6 (.reg .a) s

/-- SET 7,B, 0xCBF8 (43 R315). -/
def execSet7B (s : State) : Result := setBit 7 (.reg .b) s

/-- SET 7,C, 0xCBF9 (43 R315). -/
def execSet7C (s : State) : Result := setBit 7 (.reg .c) s

/-- SET 7,D, 0xCBFA (43 R315). -/
def execSet7D (s : State) : Result := setBit 7 (.reg .d) s

/-- SET 7,E, 0xCBFB (43 R315). -/
def execSet7E (s : State) : Result := setBit 7 (.reg .e) s

/-- SET 7,H, 0xCBFC (43 R315). -/
def execSet7H (s : State) : Result := setBit 7 (.reg .h) s

/-- SET 7,L, 0xCBFD (43 R315). -/
def execSet7L (s : State) : Result := setBit 7 (.reg .l) s

/-- SET 7,(HL), 0xCBFE (43 R315). -/
def execSet7MemHl (s : State) : Result := setBit 7 .memHl s

/-- SET 7,A, 0xCBFF (43 R315). -/
def execSet7A (s : State) : Result := setBit 7 (.reg .a) s

end Sys2Proof.Machine
end

