-- ==== Sys2Proof/Machine/System.lean ====
section
/-!
DEFINITION. System and miscellaneous instructions (45_system.md): the shared operations, then one meaning for each instruction.
-/

namespace Sys2Proof.Machine

open Sys2Proof

/-- NOP (45 R370). -/
def noOperation (s : State) : Result := finish 1 (afterFetch 1 s)

/-- HALT: with IME clear and an interrupt pending it sets `halt_bug` and does not halt (45 R372). -/
def haltCpu (s : State) : Result :=
  if !s.ime && pendingInterrupts s != 0 then finish 1 { afterFetch 1 s with haltBug := true }
  else finish 1 { afterFetch 1 s with halted := true }

/-- DI: at once, and a pending EI is dropped (45 R373). -/
def disableInterrupts (s : State) : Result := finish 1 { afterFetch 1 s with ime := false, imeDelay := 0 }

/-- EI: deferred; it does nothing while IME is set or an enable is pending (45 R374). -/
def enableInterrupts (s : State) : Result :=
  if !s.ime && s.imeDelay == 0 then finish 1 { afterFetch 1 s with imeDelay := 2 } else finish 1 (afterFetch 1 s)

/-- NOP, 0x00 (45 R370). -/
def execNop (s : State) : Result := noOperation s

/-- STOP, 0x10 (45 R371). -/
def execStop (_n : Byte) (s : State) : Result := raiseUnimplemented 0x10 s

/-- HALT, 0x76 (45 R372). -/
def execHalt (s : State) : Result := haltCpu s

/-- PREFIX CB, 0xCB (45 R375). -/
def execPrefixCb (op2 : Byte) (s : State) : Result := extendedOp op2 s

/-- the illegal opcode, 0xD3 (45 R376). -/
def execIllegalD3 (s : State) : Result := raiseUnimplemented 0xD3 s

/-- the illegal opcode, 0xDB (45 R376). -/
def execIllegalDB (s : State) : Result := raiseUnimplemented 0xDB s

/-- the illegal opcode, 0xDD (45 R376). -/
def execIllegalDD (s : State) : Result := raiseUnimplemented 0xDD s

/-- the illegal opcode, 0xE3 (45 R376). -/
def execIllegalE3 (s : State) : Result := raiseUnimplemented 0xE3 s

/-- the illegal opcode, 0xE4 (45 R376). -/
def execIllegalE4 (s : State) : Result := raiseUnimplemented 0xE4 s

/-- the illegal opcode, 0xEB (45 R376). -/
def execIllegalEB (s : State) : Result := raiseUnimplemented 0xEB s

/-- the illegal opcode, 0xEC (45 R376). -/
def execIllegalEC (s : State) : Result := raiseUnimplemented 0xEC s

/-- the illegal opcode, 0xED (45 R376). -/
def execIllegalED (s : State) : Result := raiseUnimplemented 0xED s

/-- DI, 0xF3 (45 R373). -/
def execDi (s : State) : Result := disableInterrupts s

/-- the illegal opcode, 0xF4 (45 R376). -/
def execIllegalF4 (s : State) : Result := raiseUnimplemented 0xF4 s

/-- EI, 0xFB (45 R374). -/
def execEi (s : State) : Result := enableInterrupts s

/-- the illegal opcode, 0xFC (45 R376). -/
def execIllegalFC (s : State) : Result := raiseUnimplemented 0xFC s

/-- the illegal opcode, 0xFD (45 R376). -/
def execIllegalFD (s : State) : Result := raiseUnimplemented 0xFD s

end Sys2Proof.Machine
end

