-- ==== Sys2Proof/Decode.lean ====
section
/-!
DEFINITION. The decoder and the encoder (30_encoding.md). The two grids are those of 30 R150 and R152, sixteen rows of sixteen
entries each; an entry says which operand bytes follow the opcode (30 R142). Decoding is total on any bytes, and a list of bytes
that ends before its instruction does is rejected by name.
-/

namespace Sys2Proof

open Sys2Proof.Machine

/-- One entry of the primary table: the instruction, and the operand bytes it takes (30 R140, R142). -/
inductive Entry where
  /-- Format `OP`: no operand byte. -/
  | op (i : Instr)
  /-- Format `OP_D8`: one operand byte. -/
  | d8 (f : Byte → Instr)
  /-- Format `OP_D16`: two operand bytes, the low one first. -/
  | d16 (f : Word → Instr)
  /-- The prefix 0xCB: the next byte selects from the extended table (30 R140, R154). -/
  | extended

/-- Row 0x of the primary grid (30 R150). -/
def primaryRow0 : List Entry := [
  .op .nop, .d16 .ldBcD16, .op .ldMemBcA, .op .incBc, .op .incB, .op .decB, .d8 .ldBD8, .op .rlca, .d16 .ldMemA16Sp,
  .op .addHlBc, .op .ldAMemBc, .op .decBc, .op .incC, .op .decC, .d8 .ldCD8, .op .rrca]

/-- Row 1x of the primary grid (30 R150). -/
def primaryRow1 : List Entry := [
  .d8 .stop, .d16 .ldDeD16, .op .ldMemDeA, .op .incDe, .op .incD, .op .decD, .d8 .ldDD8, .op .rla, .d8 .jrE8, .op .addHlDe,
  .op .ldAMemDe, .op .decDe, .op .incE, .op .decE, .d8 .ldED8, .op .rra]

/-- Row 2x of the primary grid (30 R150). -/
def primaryRow2 : List Entry := [
  .d8 .jrNzE8, .d16 .ldHlD16, .op .ldMemHlIncA, .op .incHl, .op .incH, .op .decH, .d8 .ldHD8, .op .daa, .d8 .jrZE8,
  .op .addHlHl, .op .ldAMemHlInc, .op .decHl, .op .incL, .op .decL, .d8 .ldLD8, .op .cpl]

/-- Row 3x of the primary grid (30 R150). -/
def primaryRow3 : List Entry := [
  .d8 .jrNcE8, .d16 .ldSpD16, .op .ldMemHlDecA, .op .incSp, .op .incMemHl, .op .decMemHl, .d8 .ldMemHlD8, .op .scf, .d8 .jrCE8,
  .op .addHlSp, .op .ldAMemHlDec, .op .decSp, .op .incA, .op .decA, .d8 .ldAD8, .op .ccf]

/-- Row 4x of the primary grid (30 R150). -/
def primaryRow4 : List Entry := [
  .op .ldBB, .op .ldBC, .op .ldBD, .op .ldBE, .op .ldBH, .op .ldBL, .op .ldBMemHl, .op .ldBA, .op .ldCB, .op .ldCC, .op .ldCD,
  .op .ldCE, .op .ldCH, .op .ldCL, .op .ldCMemHl, .op .ldCA]

/-- Row 5x of the primary grid (30 R150). -/
def primaryRow5 : List Entry := [
  .op .ldDB, .op .ldDC, .op .ldDD, .op .ldDE, .op .ldDH, .op .ldDL, .op .ldDMemHl, .op .ldDA, .op .ldEB, .op .ldEC, .op .ldED,
  .op .ldEE, .op .ldEH, .op .ldEL, .op .ldEMemHl, .op .ldEA]

/-- Row 6x of the primary grid (30 R150). -/
def primaryRow6 : List Entry := [
  .op .ldHB, .op .ldHC, .op .ldHD, .op .ldHE, .op .ldHH, .op .ldHL, .op .ldHMemHl, .op .ldHA, .op .ldLB, .op .ldLC, .op .ldLD,
  .op .ldLE, .op .ldLH, .op .ldLL, .op .ldLMemHl, .op .ldLA]

/-- Row 7x of the primary grid (30 R150). -/
def primaryRow7 : List Entry := [
  .op .ldMemHlB, .op .ldMemHlC, .op .ldMemHlD, .op .ldMemHlE, .op .ldMemHlH, .op .ldMemHlL, .op .halt, .op .ldMemHlA, .op .ldAB,
  .op .ldAC, .op .ldAD, .op .ldAE, .op .ldAH, .op .ldAL, .op .ldAMemHl, .op .ldAA]

/-- Row 8x of the primary grid (30 R150). -/
def primaryRow8 : List Entry := [
  .op .addAB, .op .addAC, .op .addAD, .op .addAE, .op .addAH, .op .addAL, .op .addAMemHl, .op .addAA, .op .adcAB, .op .adcAC,
  .op .adcAD, .op .adcAE, .op .adcAH, .op .adcAL, .op .adcAMemHl, .op .adcAA]

/-- Row 9x of the primary grid (30 R150). -/
def primaryRow9 : List Entry := [
  .op .subB, .op .subC, .op .subD, .op .subE, .op .subH, .op .subL, .op .subMemHl, .op .subA, .op .sbcAB, .op .sbcAC,
  .op .sbcAD, .op .sbcAE, .op .sbcAH, .op .sbcAL, .op .sbcAMemHl, .op .sbcAA]

/-- Row Ax of the primary grid (30 R150). -/
def primaryRowA : List Entry := [
  .op .andB, .op .andC, .op .andD, .op .andE, .op .andH, .op .andL, .op .andMemHl, .op .andA, .op .xorB, .op .xorC, .op .xorD,
  .op .xorE, .op .xorH, .op .xorL, .op .xorMemHl, .op .xorA]

/-- Row Bx of the primary grid (30 R150). -/
def primaryRowB : List Entry := [
  .op .orB, .op .orC, .op .orD, .op .orE, .op .orH, .op .orL, .op .orMemHl, .op .orA, .op .cpB, .op .cpC, .op .cpD, .op .cpE,
  .op .cpH, .op .cpL, .op .cpMemHl, .op .cpA]

/-- Row Cx of the primary grid (30 R150). -/
def primaryRowC : List Entry := [
  .op .retNz, .op .popBc, .d16 .jpNzA16, .d16 .jpA16, .d16 .callNzA16, .op .pushBc, .d8 .addAD8, .op .rst00, .op .retZ,
  .op .ret, .d16 .jpZA16, .extended, .d16 .callZA16, .d16 .callA16, .d8 .adcAD8, .op .rst08]

/-- Row Dx of the primary grid (30 R150). -/
def primaryRowD : List Entry := [
  .op .retNc, .op .popDe, .d16 .jpNcA16, .op .illegalD3, .d16 .callNcA16, .op .pushDe, .d8 .subD8, .op .rst10, .op .retC,
  .op .reti, .d16 .jpCA16, .op .illegalDB, .d16 .callCA16, .op .illegalDD, .d8 .sbcAD8, .op .rst18]

/-- Row Ex of the primary grid (30 R150). -/
def primaryRowE : List Entry := [
  .d8 .ldhMemA8A, .op .popHl, .op .ldhMemCA, .op .illegalE3, .op .illegalE4, .op .pushHl, .d8 .andD8, .op .rst20, .d8 .addSpE8,
  .op .jpHl, .d16 .ldMemA16A, .op .illegalEB, .op .illegalEC, .op .illegalED, .d8 .xorD8, .op .rst28]

/-- Row Fx of the primary grid (30 R150). -/
def primaryRowF : List Entry := [
  .d8 .ldhAMemA8, .op .popAf, .op .ldhAMemC, .op .di, .op .illegalF4, .op .pushAf, .d8 .orD8, .op .rst30, .d8 .ldHlSpE8,
  .op .ldSpHl, .d16 .ldAMemA16, .op .ei, .op .illegalFC, .op .illegalFD, .d8 .cpD8, .op .rst38]

/-- Row 0x of the extended grid (30 R152). -/
def extendedRow0 : List Instr := [
  .rlcB, .rlcC, .rlcD, .rlcE, .rlcH, .rlcL, .rlcMemHl, .rlcA, .rrcB, .rrcC, .rrcD, .rrcE, .rrcH, .rrcL, .rrcMemHl, .rrcA]

/-- Row 1x of the extended grid (30 R152). -/
def extendedRow1 : List Instr := [
  .rlB, .rlC, .rlD, .rlE, .rlH, .rlL, .rlMemHl, .rlA, .rrB, .rrC, .rrD, .rrE, .rrH, .rrL, .rrMemHl, .rrA]

/-- Row 2x of the extended grid (30 R152). -/
def extendedRow2 : List Instr := [
  .slaB, .slaC, .slaD, .slaE, .slaH, .slaL, .slaMemHl, .slaA, .sraB, .sraC, .sraD, .sraE, .sraH, .sraL, .sraMemHl, .sraA]

/-- Row 3x of the extended grid (30 R152). -/
def extendedRow3 : List Instr := [
  .swapB, .swapC, .swapD, .swapE, .swapH, .swapL, .swapMemHl, .swapA, .srlB, .srlC, .srlD, .srlE, .srlH, .srlL, .srlMemHl, .srlA]

/-- Row 4x of the extended grid (30 R152). -/
def extendedRow4 : List Instr := [
  .bit0B, .bit0C, .bit0D, .bit0E, .bit0H, .bit0L, .bit0MemHl, .bit0A, .bit1B, .bit1C, .bit1D, .bit1E, .bit1H, .bit1L,
  .bit1MemHl, .bit1A]

/-- Row 5x of the extended grid (30 R152). -/
def extendedRow5 : List Instr := [
  .bit2B, .bit2C, .bit2D, .bit2E, .bit2H, .bit2L, .bit2MemHl, .bit2A, .bit3B, .bit3C, .bit3D, .bit3E, .bit3H, .bit3L,
  .bit3MemHl, .bit3A]

/-- Row 6x of the extended grid (30 R152). -/
def extendedRow6 : List Instr := [
  .bit4B, .bit4C, .bit4D, .bit4E, .bit4H, .bit4L, .bit4MemHl, .bit4A, .bit5B, .bit5C, .bit5D, .bit5E, .bit5H, .bit5L,
  .bit5MemHl, .bit5A]

/-- Row 7x of the extended grid (30 R152). -/
def extendedRow7 : List Instr := [
  .bit6B, .bit6C, .bit6D, .bit6E, .bit6H, .bit6L, .bit6MemHl, .bit6A, .bit7B, .bit7C, .bit7D, .bit7E, .bit7H, .bit7L,
  .bit7MemHl, .bit7A]

/-- Row 8x of the extended grid (30 R152). -/
def extendedRow8 : List Instr := [
  .res0B, .res0C, .res0D, .res0E, .res0H, .res0L, .res0MemHl, .res0A, .res1B, .res1C, .res1D, .res1E, .res1H, .res1L,
  .res1MemHl, .res1A]

/-- Row 9x of the extended grid (30 R152). -/
def extendedRow9 : List Instr := [
  .res2B, .res2C, .res2D, .res2E, .res2H, .res2L, .res2MemHl, .res2A, .res3B, .res3C, .res3D, .res3E, .res3H, .res3L,
  .res3MemHl, .res3A]

/-- Row Ax of the extended grid (30 R152). -/
def extendedRowA : List Instr := [
  .res4B, .res4C, .res4D, .res4E, .res4H, .res4L, .res4MemHl, .res4A, .res5B, .res5C, .res5D, .res5E, .res5H, .res5L,
  .res5MemHl, .res5A]

/-- Row Bx of the extended grid (30 R152). -/
def extendedRowB : List Instr := [
  .res6B, .res6C, .res6D, .res6E, .res6H, .res6L, .res6MemHl, .res6A, .res7B, .res7C, .res7D, .res7E, .res7H, .res7L,
  .res7MemHl, .res7A]

/-- Row Cx of the extended grid (30 R152). -/
def extendedRowC : List Instr := [
  .set0B, .set0C, .set0D, .set0E, .set0H, .set0L, .set0MemHl, .set0A, .set1B, .set1C, .set1D, .set1E, .set1H, .set1L,
  .set1MemHl, .set1A]

/-- Row Dx of the extended grid (30 R152). -/
def extendedRowD : List Instr := [
  .set2B, .set2C, .set2D, .set2E, .set2H, .set2L, .set2MemHl, .set2A, .set3B, .set3C, .set3D, .set3E, .set3H, .set3L,
  .set3MemHl, .set3A]

/-- Row Ex of the extended grid (30 R152). -/
def extendedRowE : List Instr := [
  .set4B, .set4C, .set4D, .set4E, .set4H, .set4L, .set4MemHl, .set4A, .set5B, .set5C, .set5D, .set5E, .set5H, .set5L,
  .set5MemHl, .set5A]

/-- Row Fx of the extended grid (30 R152). -/
def extendedRowF : List Instr := [
  .set6B, .set6C, .set6D, .set6E, .set6H, .set6L, .set6MemHl, .set6A, .set7B, .set7C, .set7D, .set7E, .set7H, .set7L,
  .set7MemHl, .set7A]

/-- The primary grid (30 R150). -/
def primaryGrid : List (List Entry) := [
  primaryRow0, primaryRow1, primaryRow2, primaryRow3, primaryRow4, primaryRow5, primaryRow6, primaryRow7, primaryRow8,
  primaryRow9, primaryRowA, primaryRowB, primaryRowC, primaryRowD, primaryRowE, primaryRowF]

/-- The extended grid (30 R152). -/
def extendedGrid : List (List Instr) := [
  extendedRow0, extendedRow1, extendedRow2, extendedRow3, extendedRow4, extendedRow5, extendedRow6, extendedRow7, extendedRow8,
  extendedRow9, extendedRowA, extendedRowB, extendedRowC, extendedRowD, extendedRowE, extendedRowF]

/-- The entry in the row of the opcode's high digit and the column of its low digit. -/
def primaryEntry (op : Byte) : Entry := (primaryGrid.getD (op.toNat / 16) []).getD (op.toNat % 16) .extended

/-- The extended-table instruction of the byte after 0xCB; all 256 are defined (30 R149). -/
def extendedInstr (op2 : Byte) : Instr := (extendedGrid.getD (op2.toNat / 16) []).getD (op2.toNat % 16) (.prefixCb op2)

/-- The number of bytes of an instruction of this entry (30 R142). STOP counts two, its length for disassembly. -/
def entryLength (e : Entry) : Nat :=
  match e with
  | .op _ => 1
  | .d8 _ => 2
  | .d16 _ => 3
  | .extended => 2

/-- The instruction of an entry with the two bytes after its opcode; an entry reads only those it takes (30 R147). -/
def entryInstr (e : Entry) (b1 b2 : Byte) : Instr :=
  match e with
  | .op i => i
  | .d8 f => f b1
  | .d16 f => f (pairOf b2 b1)
  | .extended => extendedInstr b1

/-- The instruction's length, found from the first byte alone (30 R142). -/
def lengthOf (b0 : Byte) : Nat := entryLength (primaryEntry b0)

/-- The instruction at three bytes of the instruction stream. -/
def decodeAt (b0 b1 b2 : Byte) : Instr := entryInstr (primaryEntry b0) b1 b2

/-- Why a list of bytes holds no instruction. -/
inductive DecodeError where
  /-- The bytes end before the instruction that begins them does. Every first byte begins an instruction (30 R150), so nothing
  else is wrong with any bytes. -/
  | truncated
  deriving DecidableEq, Repr

/-- The instruction that begins a list of bytes, and the bytes after it. -/
def decode (bs : List Byte) : Except DecodeError (Instr × List Byte) :=
  match bs with
  | [] => .error .truncated
  | b0 :: r =>
    if r.length + 1 < lengthOf b0 then .error .truncated
    else .ok (decodeAt b0 (r.getD 0 0) (r.getD 1 0), r.drop (lengthOf b0 - 1))

/-- The words of an instruction, written from the encodings of spec/opcode_table.json. The row PREFIX_CB is another name for the
words of the extended rows (30 R154, 45 R375), so its words decode to their instruction; `wellFormed` refuses it (log entry 8). -/
def encode (i : Instr) : List Byte :=
  match i with
  | .nop => [0x00]
  | .ldBcD16 v => [0x01, loByte v, hiByte v]
  | .ldMemBcA => [0x02]
  | .incBc => [0x03]
  | .incB => [0x04]
  | .decB => [0x05]
  | .ldBD8 n => [0x06, n]
  | .rlca => [0x07]
  | .ldMemA16Sp a => [0x08, loByte a, hiByte a]
  | .addHlBc => [0x09]
  | .ldAMemBc => [0x0A]
  | .decBc => [0x0B]
  | .incC => [0x0C]
  | .decC => [0x0D]
  | .ldCD8 n => [0x0E, n]
  | .rrca => [0x0F]
  | .stop n => [0x10, n]
  | .ldDeD16 v => [0x11, loByte v, hiByte v]
  | .ldMemDeA => [0x12]
  | .incDe => [0x13]
  | .incD => [0x14]
  | .decD => [0x15]
  | .ldDD8 n => [0x16, n]
  | .rla => [0x17]
  | .jrE8 n => [0x18, n]
  | .addHlDe => [0x19]
  | .ldAMemDe => [0x1A]
  | .decDe => [0x1B]
  | .incE => [0x1C]
  | .decE => [0x1D]
  | .ldED8 n => [0x1E, n]
  | .rra => [0x1F]
  | .jrNzE8 n => [0x20, n]
  | .ldHlD16 v => [0x21, loByte v, hiByte v]
  | .ldMemHlIncA => [0x22]
  | .incHl => [0x23]
  | .incH => [0x24]
  | .decH => [0x25]
  | .ldHD8 n => [0x26, n]
  | .daa => [0x27]
  | .jrZE8 n => [0x28, n]
  | .addHlHl => [0x29]
  | .ldAMemHlInc => [0x2A]
  | .decHl => [0x2B]
  | .incL => [0x2C]
  | .decL => [0x2D]
  | .ldLD8 n => [0x2E, n]
  | .cpl => [0x2F]
  | .jrNcE8 n => [0x30, n]
  | .ldSpD16 v => [0x31, loByte v, hiByte v]
  | .ldMemHlDecA => [0x32]
  | .incSp => [0x33]
  | .incMemHl => [0x34]
  | .decMemHl => [0x35]
  | .ldMemHlD8 n => [0x36, n]
  | .scf => [0x37]
  | .jrCE8 n => [0x38, n]
  | .addHlSp => [0x39]
  | .ldAMemHlDec => [0x3A]
  | .decSp => [0x3B]
  | .incA => [0x3C]
  | .decA => [0x3D]
  | .ldAD8 n => [0x3E, n]
  | .ccf => [0x3F]
  | .ldBB => [0x40]
  | .ldBC => [0x41]
  | .ldBD => [0x42]
  | .ldBE => [0x43]
  | .ldBH => [0x44]
  | .ldBL => [0x45]
  | .ldBMemHl => [0x46]
  | .ldBA => [0x47]
  | .ldCB => [0x48]
  | .ldCC => [0x49]
  | .ldCD => [0x4A]
  | .ldCE => [0x4B]
  | .ldCH => [0x4C]
  | .ldCL => [0x4D]
  | .ldCMemHl => [0x4E]
  | .ldCA => [0x4F]
  | .ldDB => [0x50]
  | .ldDC => [0x51]
  | .ldDD => [0x52]
  | .ldDE => [0x53]
  | .ldDH => [0x54]
  | .ldDL => [0x55]
  | .ldDMemHl => [0x56]
  | .ldDA => [0x57]
  | .ldEB => [0x58]
  | .ldEC => [0x59]
  | .ldED => [0x5A]
  | .ldEE => [0x5B]
  | .ldEH => [0x5C]
  | .ldEL => [0x5D]
  | .ldEMemHl => [0x5E]
  | .ldEA => [0x5F]
  | .ldHB => [0x60]
  | .ldHC => [0x61]
  | .ldHD => [0x62]
  | .ldHE => [0x63]
  | .ldHH => [0x64]
  | .ldHL => [0x65]
  | .ldHMemHl => [0x66]
  | .ldHA => [0x67]
  | .ldLB => [0x68]
  | .ldLC => [0x69]
  | .ldLD => [0x6A]
  | .ldLE => [0x6B]
  | .ldLH => [0x6C]
  | .ldLL => [0x6D]
  | .ldLMemHl => [0x6E]
  | .ldLA => [0x6F]
  | .ldMemHlB => [0x70]
  | .ldMemHlC => [0x71]
  | .ldMemHlD => [0x72]
  | .ldMemHlE => [0x73]
  | .ldMemHlH => [0x74]
  | .ldMemHlL => [0x75]
  | .halt => [0x76]
  | .ldMemHlA => [0x77]
  | .ldAB => [0x78]
  | .ldAC => [0x79]
  | .ldAD => [0x7A]
  | .ldAE => [0x7B]
  | .ldAH => [0x7C]
  | .ldAL => [0x7D]
  | .ldAMemHl => [0x7E]
  | .ldAA => [0x7F]
  | .addAB => [0x80]
  | .addAC => [0x81]
  | .addAD => [0x82]
  | .addAE => [0x83]
  | .addAH => [0x84]
  | .addAL => [0x85]
  | .addAMemHl => [0x86]
  | .addAA => [0x87]
  | .adcAB => [0x88]
  | .adcAC => [0x89]
  | .adcAD => [0x8A]
  | .adcAE => [0x8B]
  | .adcAH => [0x8C]
  | .adcAL => [0x8D]
  | .adcAMemHl => [0x8E]
  | .adcAA => [0x8F]
  | .subB => [0x90]
  | .subC => [0x91]
  | .subD => [0x92]
  | .subE => [0x93]
  | .subH => [0x94]
  | .subL => [0x95]
  | .subMemHl => [0x96]
  | .subA => [0x97]
  | .sbcAB => [0x98]
  | .sbcAC => [0x99]
  | .sbcAD => [0x9A]
  | .sbcAE => [0x9B]
  | .sbcAH => [0x9C]
  | .sbcAL => [0x9D]
  | .sbcAMemHl => [0x9E]
  | .sbcAA => [0x9F]
  | .andB => [0xA0]
  | .andC => [0xA1]
  | .andD => [0xA2]
  | .andE => [0xA3]
  | .andH => [0xA4]
  | .andL => [0xA5]
  | .andMemHl => [0xA6]
  | .andA => [0xA7]
  | .xorB => [0xA8]
  | .xorC => [0xA9]
  | .xorD => [0xAA]
  | .xorE => [0xAB]
  | .xorH => [0xAC]
  | .xorL => [0xAD]
  | .xorMemHl => [0xAE]
  | .xorA => [0xAF]
  | .orB => [0xB0]
  | .orC => [0xB1]
  | .orD => [0xB2]
  | .orE => [0xB3]
  | .orH => [0xB4]
  | .orL => [0xB5]
  | .orMemHl => [0xB6]
  | .orA => [0xB7]
  | .cpB => [0xB8]
  | .cpC => [0xB9]
  | .cpD => [0xBA]
  | .cpE => [0xBB]
  | .cpH => [0xBC]
  | .cpL => [0xBD]
  | .cpMemHl => [0xBE]
  | .cpA => [0xBF]
  | .retNz => [0xC0]
  | .popBc => [0xC1]
  | .jpNzA16 a => [0xC2, loByte a, hiByte a]
  | .jpA16 a => [0xC3, loByte a, hiByte a]
  | .callNzA16 a => [0xC4, loByte a, hiByte a]
  | .pushBc => [0xC5]
  | .addAD8 n => [0xC6, n]
  | .rst00 => [0xC7]
  | .retZ => [0xC8]
  | .ret => [0xC9]
  | .jpZA16 a => [0xCA, loByte a, hiByte a]
  | .prefixCb op2 => [0xCB, op2]
  | .callZA16 a => [0xCC, loByte a, hiByte a]
  | .callA16 a => [0xCD, loByte a, hiByte a]
  | .adcAD8 n => [0xCE, n]
  | .rst08 => [0xCF]
  | .retNc => [0xD0]
  | .popDe => [0xD1]
  | .jpNcA16 a => [0xD2, loByte a, hiByte a]
  | .illegalD3 => [0xD3]
  | .callNcA16 a => [0xD4, loByte a, hiByte a]
  | .pushDe => [0xD5]
  | .subD8 n => [0xD6, n]
  | .rst10 => [0xD7]
  | .retC => [0xD8]
  | .reti => [0xD9]
  | .jpCA16 a => [0xDA, loByte a, hiByte a]
  | .illegalDB => [0xDB]
  | .callCA16 a => [0xDC, loByte a, hiByte a]
  | .illegalDD => [0xDD]
  | .sbcAD8 n => [0xDE, n]
  | .rst18 => [0xDF]
  | .ldhMemA8A n => [0xE0, n]
  | .popHl => [0xE1]
  | .ldhMemCA => [0xE2]
  | .illegalE3 => [0xE3]
  | .illegalE4 => [0xE4]
  | .pushHl => [0xE5]
  | .andD8 n => [0xE6, n]
  | .rst20 => [0xE7]
  | .addSpE8 n => [0xE8, n]
  | .jpHl => [0xE9]
  | .ldMemA16A a => [0xEA, loByte a, hiByte a]
  | .illegalEB => [0xEB]
  | .illegalEC => [0xEC]
  | .illegalED => [0xED]
  | .xorD8 n => [0xEE, n]
  | .rst28 => [0xEF]
  | .ldhAMemA8 n => [0xF0, n]
  | .popAf => [0xF1]
  | .ldhAMemC => [0xF2]
  | .di => [0xF3]
  | .illegalF4 => [0xF4]
  | .pushAf => [0xF5]
  | .orD8 n => [0xF6, n]
  | .rst30 => [0xF7]
  | .ldHlSpE8 n => [0xF8, n]
  | .ldSpHl => [0xF9]
  | .ldAMemA16 a => [0xFA, loByte a, hiByte a]
  | .ei => [0xFB]
  | .illegalFC => [0xFC]
  | .illegalFD => [0xFD]
  | .cpD8 n => [0xFE, n]
  | .rst38 => [0xFF]
  | .rlcB => [0xCB, 0x00]
  | .rlcC => [0xCB, 0x01]
  | .rlcD => [0xCB, 0x02]
  | .rlcE => [0xCB, 0x03]
  | .rlcH => [0xCB, 0x04]
  | .rlcL => [0xCB, 0x05]
  | .rlcMemHl => [0xCB, 0x06]
  | .rlcA => [0xCB, 0x07]
  | .rrcB => [0xCB, 0x08]
  | .rrcC => [0xCB, 0x09]
  | .rrcD => [0xCB, 0x0A]
  | .rrcE => [0xCB, 0x0B]
  | .rrcH => [0xCB, 0x0C]
  | .rrcL => [0xCB, 0x0D]
  | .rrcMemHl => [0xCB, 0x0E]
  | .rrcA => [0xCB, 0x0F]
  | .rlB => [0xCB, 0x10]
  | .rlC => [0xCB, 0x11]
  | .rlD => [0xCB, 0x12]
  | .rlE => [0xCB, 0x13]
  | .rlH => [0xCB, 0x14]
  | .rlL => [0xCB, 0x15]
  | .rlMemHl => [0xCB, 0x16]
  | .rlA => [0xCB, 0x17]
  | .rrB => [0xCB, 0x18]
  | .rrC => [0xCB, 0x19]
  | .rrD => [0xCB, 0x1A]
  | .rrE => [0xCB, 0x1B]
  | .rrH => [0xCB, 0x1C]
  | .rrL => [0xCB, 0x1D]
  | .rrMemHl => [0xCB, 0x1E]
  | .rrA => [0xCB, 0x1F]
  | .slaB => [0xCB, 0x20]
  | .slaC => [0xCB, 0x21]
  | .slaD => [0xCB, 0x22]
  | .slaE => [0xCB, 0x23]
  | .slaH => [0xCB, 0x24]
  | .slaL => [0xCB, 0x25]
  | .slaMemHl => [0xCB, 0x26]
  | .slaA => [0xCB, 0x27]
  | .sraB => [0xCB, 0x28]
  | .sraC => [0xCB, 0x29]
  | .sraD => [0xCB, 0x2A]
  | .sraE => [0xCB, 0x2B]
  | .sraH => [0xCB, 0x2C]
  | .sraL => [0xCB, 0x2D]
  | .sraMemHl => [0xCB, 0x2E]
  | .sraA => [0xCB, 0x2F]
  | .swapB => [0xCB, 0x30]
  | .swapC => [0xCB, 0x31]
  | .swapD => [0xCB, 0x32]
  | .swapE => [0xCB, 0x33]
  | .swapH => [0xCB, 0x34]
  | .swapL => [0xCB, 0x35]
  | .swapMemHl => [0xCB, 0x36]
  | .swapA => [0xCB, 0x37]
  | .srlB => [0xCB, 0x38]
  | .srlC => [0xCB, 0x39]
  | .srlD => [0xCB, 0x3A]
  | .srlE => [0xCB, 0x3B]
  | .srlH => [0xCB, 0x3C]
  | .srlL => [0xCB, 0x3D]
  | .srlMemHl => [0xCB, 0x3E]
  | .srlA => [0xCB, 0x3F]
  | .bit0B => [0xCB, 0x40]
  | .bit0C => [0xCB, 0x41]
  | .bit0D => [0xCB, 0x42]
  | .bit0E => [0xCB, 0x43]
  | .bit0H => [0xCB, 0x44]
  | .bit0L => [0xCB, 0x45]
  | .bit0MemHl => [0xCB, 0x46]
  | .bit0A => [0xCB, 0x47]
  | .bit1B => [0xCB, 0x48]
  | .bit1C => [0xCB, 0x49]
  | .bit1D => [0xCB, 0x4A]
  | .bit1E => [0xCB, 0x4B]
  | .bit1H => [0xCB, 0x4C]
  | .bit1L => [0xCB, 0x4D]
  | .bit1MemHl => [0xCB, 0x4E]
  | .bit1A => [0xCB, 0x4F]
  | .bit2B => [0xCB, 0x50]
  | .bit2C => [0xCB, 0x51]
  | .bit2D => [0xCB, 0x52]
  | .bit2E => [0xCB, 0x53]
  | .bit2H => [0xCB, 0x54]
  | .bit2L => [0xCB, 0x55]
  | .bit2MemHl => [0xCB, 0x56]
  | .bit2A => [0xCB, 0x57]
  | .bit3B => [0xCB, 0x58]
  | .bit3C => [0xCB, 0x59]
  | .bit3D => [0xCB, 0x5A]
  | .bit3E => [0xCB, 0x5B]
  | .bit3H => [0xCB, 0x5C]
  | .bit3L => [0xCB, 0x5D]
  | .bit3MemHl => [0xCB, 0x5E]
  | .bit3A => [0xCB, 0x5F]
  | .bit4B => [0xCB, 0x60]
  | .bit4C => [0xCB, 0x61]
  | .bit4D => [0xCB, 0x62]
  | .bit4E => [0xCB, 0x63]
  | .bit4H => [0xCB, 0x64]
  | .bit4L => [0xCB, 0x65]
  | .bit4MemHl => [0xCB, 0x66]
  | .bit4A => [0xCB, 0x67]
  | .bit5B => [0xCB, 0x68]
  | .bit5C => [0xCB, 0x69]
  | .bit5D => [0xCB, 0x6A]
  | .bit5E => [0xCB, 0x6B]
  | .bit5H => [0xCB, 0x6C]
  | .bit5L => [0xCB, 0x6D]
  | .bit5MemHl => [0xCB, 0x6E]
  | .bit5A => [0xCB, 0x6F]
  | .bit6B => [0xCB, 0x70]
  | .bit6C => [0xCB, 0x71]
  | .bit6D => [0xCB, 0x72]
  | .bit6E => [0xCB, 0x73]
  | .bit6H => [0xCB, 0x74]
  | .bit6L => [0xCB, 0x75]
  | .bit6MemHl => [0xCB, 0x76]
  | .bit6A => [0xCB, 0x77]
  | .bit7B => [0xCB, 0x78]
  | .bit7C => [0xCB, 0x79]
  | .bit7D => [0xCB, 0x7A]
  | .bit7E => [0xCB, 0x7B]
  | .bit7H => [0xCB, 0x7C]
  | .bit7L => [0xCB, 0x7D]
  | .bit7MemHl => [0xCB, 0x7E]
  | .bit7A => [0xCB, 0x7F]
  | .res0B => [0xCB, 0x80]
  | .res0C => [0xCB, 0x81]
  | .res0D => [0xCB, 0x82]
  | .res0E => [0xCB, 0x83]
  | .res0H => [0xCB, 0x84]
  | .res0L => [0xCB, 0x85]
  | .res0MemHl => [0xCB, 0x86]
  | .res0A => [0xCB, 0x87]
  | .res1B => [0xCB, 0x88]
  | .res1C => [0xCB, 0x89]
  | .res1D => [0xCB, 0x8A]
  | .res1E => [0xCB, 0x8B]
  | .res1H => [0xCB, 0x8C]
  | .res1L => [0xCB, 0x8D]
  | .res1MemHl => [0xCB, 0x8E]
  | .res1A => [0xCB, 0x8F]
  | .res2B => [0xCB, 0x90]
  | .res2C => [0xCB, 0x91]
  | .res2D => [0xCB, 0x92]
  | .res2E => [0xCB, 0x93]
  | .res2H => [0xCB, 0x94]
  | .res2L => [0xCB, 0x95]
  | .res2MemHl => [0xCB, 0x96]
  | .res2A => [0xCB, 0x97]
  | .res3B => [0xCB, 0x98]
  | .res3C => [0xCB, 0x99]
  | .res3D => [0xCB, 0x9A]
  | .res3E => [0xCB, 0x9B]
  | .res3H => [0xCB, 0x9C]
  | .res3L => [0xCB, 0x9D]
  | .res3MemHl => [0xCB, 0x9E]
  | .res3A => [0xCB, 0x9F]
  | .res4B => [0xCB, 0xA0]
  | .res4C => [0xCB, 0xA1]
  | .res4D => [0xCB, 0xA2]
  | .res4E => [0xCB, 0xA3]
  | .res4H => [0xCB, 0xA4]
  | .res4L => [0xCB, 0xA5]
  | .res4MemHl => [0xCB, 0xA6]
  | .res4A => [0xCB, 0xA7]
  | .res5B => [0xCB, 0xA8]
  | .res5C => [0xCB, 0xA9]
  | .res5D => [0xCB, 0xAA]
  | .res5E => [0xCB, 0xAB]
  | .res5H => [0xCB, 0xAC]
  | .res5L => [0xCB, 0xAD]
  | .res5MemHl => [0xCB, 0xAE]
  | .res5A => [0xCB, 0xAF]
  | .res6B => [0xCB, 0xB0]
  | .res6C => [0xCB, 0xB1]
  | .res6D => [0xCB, 0xB2]
  | .res6E => [0xCB, 0xB3]
  | .res6H => [0xCB, 0xB4]
  | .res6L => [0xCB, 0xB5]
  | .res6MemHl => [0xCB, 0xB6]
  | .res6A => [0xCB, 0xB7]
  | .res7B => [0xCB, 0xB8]
  | .res7C => [0xCB, 0xB9]
  | .res7D => [0xCB, 0xBA]
  | .res7E => [0xCB, 0xBB]
  | .res7H => [0xCB, 0xBC]
  | .res7L => [0xCB, 0xBD]
  | .res7MemHl => [0xCB, 0xBE]
  | .res7A => [0xCB, 0xBF]
  | .set0B => [0xCB, 0xC0]
  | .set0C => [0xCB, 0xC1]
  | .set0D => [0xCB, 0xC2]
  | .set0E => [0xCB, 0xC3]
  | .set0H => [0xCB, 0xC4]
  | .set0L => [0xCB, 0xC5]
  | .set0MemHl => [0xCB, 0xC6]
  | .set0A => [0xCB, 0xC7]
  | .set1B => [0xCB, 0xC8]
  | .set1C => [0xCB, 0xC9]
  | .set1D => [0xCB, 0xCA]
  | .set1E => [0xCB, 0xCB]
  | .set1H => [0xCB, 0xCC]
  | .set1L => [0xCB, 0xCD]
  | .set1MemHl => [0xCB, 0xCE]
  | .set1A => [0xCB, 0xCF]
  | .set2B => [0xCB, 0xD0]
  | .set2C => [0xCB, 0xD1]
  | .set2D => [0xCB, 0xD2]
  | .set2E => [0xCB, 0xD3]
  | .set2H => [0xCB, 0xD4]
  | .set2L => [0xCB, 0xD5]
  | .set2MemHl => [0xCB, 0xD6]
  | .set2A => [0xCB, 0xD7]
  | .set3B => [0xCB, 0xD8]
  | .set3C => [0xCB, 0xD9]
  | .set3D => [0xCB, 0xDA]
  | .set3E => [0xCB, 0xDB]
  | .set3H => [0xCB, 0xDC]
  | .set3L => [0xCB, 0xDD]
  | .set3MemHl => [0xCB, 0xDE]
  | .set3A => [0xCB, 0xDF]
  | .set4B => [0xCB, 0xE0]
  | .set4C => [0xCB, 0xE1]
  | .set4D => [0xCB, 0xE2]
  | .set4E => [0xCB, 0xE3]
  | .set4H => [0xCB, 0xE4]
  | .set4L => [0xCB, 0xE5]
  | .set4MemHl => [0xCB, 0xE6]
  | .set4A => [0xCB, 0xE7]
  | .set5B => [0xCB, 0xE8]
  | .set5C => [0xCB, 0xE9]
  | .set5D => [0xCB, 0xEA]
  | .set5E => [0xCB, 0xEB]
  | .set5H => [0xCB, 0xEC]
  | .set5L => [0xCB, 0xED]
  | .set5MemHl => [0xCB, 0xEE]
  | .set5A => [0xCB, 0xEF]
  | .set6B => [0xCB, 0xF0]
  | .set6C => [0xCB, 0xF1]
  | .set6D => [0xCB, 0xF2]
  | .set6E => [0xCB, 0xF3]
  | .set6H => [0xCB, 0xF4]
  | .set6L => [0xCB, 0xF5]
  | .set6MemHl => [0xCB, 0xF6]
  | .set6A => [0xCB, 0xF7]
  | .set7B => [0xCB, 0xF8]
  | .set7C => [0xCB, 0xF9]
  | .set7D => [0xCB, 0xFA]
  | .set7E => [0xCB, 0xFB]
  | .set7H => [0xCB, 0xFC]
  | .set7L => [0xCB, 0xFD]
  | .set7MemHl => [0xCB, 0xFE]
  | .set7A => [0xCB, 0xFF]

/-- The bytes of a table word, the first byte first. The table numbers a row's bits from the least significant bit of the first byte
on, but for the 16-bit words of the extended rows, whose prefix byte 0xCB it writes at the high end (log entry 9). Bits above
`nbits` are 0. -/
def tableBytes (nbits w : Nat) : List Byte :=
  let v := w % 2 ^ nbits
  if nbits = 16 ∧ v / 0x100 = 0xCB then [0xCB, BitVec.ofNat 8 v, 0]
  else [BitVec.ofNat 8 v, BitVec.ofNat 8 (v / 0x100), BitVec.ofNat 8 (v / 0x10000)]

/-- The instruction the decoder reads from a table word. -/
def decodeTableWord (nbits w : Nat) : Option Instr :=
  match decode (tableBytes nbits w) with
  | .ok r => some r.1
  | .error _ => none

end Sys2Proof
end

