-- ==== Sys2Proof/Machine/Execute.lean ====
section
/-!
DEFINITION. What `step` adds around `exec` (60 R400, R401): fetching and decoding the instruction, the halted step, and what follows
a meaning. And placing an instruction's bytes where the next step fetches them, for `State.withFetchWord`.
-/

namespace Sys2Proof.Machine

open Sys2Proof

/-- The instruction the next step executes (60 R401, R404). -/
def fetchInstr (s : State) : Instr :=
  let b := fetchBytes s
  decodeAt b.1 b.2.1 b.2.2

/-- A step while `halted` is set: no fetch, 1 M-cycle (60 R402). -/
def haltedStep (s : State) : State := endOfStep { s with cycles := 1 }

/-- What follows a meaning: a failed step ends there, with the state as it was before it and the failure latched (60 R410); any other
goes on with the timer, the EI countdown and the interrupt check (60 R400). -/
def completeStep (r : Result) : Result :=
  match r with
  | .next t => if t.failure.isSome then .next t else .next (endOfStep t)
  | .fault f => .fault f
  | .refused q => .refused q

/-- The regions whose bytes can be placed from outside without another effect: the image and the plain arrays. -/
def placeable (a : Word) : Bool :=
  match regionOf a with
  | .rom0 | .romx | .vram | .wram | .echo | .oam | .hram => true
  | .extRam | .gap | .io | .ie => false

/-- `v` put into the image where the window's offset `off` shows `bank`, the image grown to hold it. -/
def placeRom (bank off : Nat) (v : Byte) (s : State) : State :=
  let p := (bank % max 1 (romBanks s.cart)) * 0x4000 + off
  { s with mem := { s.mem with rom := cellsSet s.mem.rom p v }, cart := { s.cart with romLen := max s.cart.romLen (p + 1) } }

/-- `v` placed at address `a`, as a load of another image or another draw would have it. -/
def placeByte (a : Word) (v : Byte) (s : State) : State :=
  match regionOf a with
  | .rom0 => placeRom (bank0 s.cart.kind s.mbc) a.toNat v s
  | .romx => placeRom (bankN s.cart.kind s.mbc) (a.toNat - 0x4000) v s
  | .vram | .wram | .echo | .oam | .hram | .extRam | .gap | .io | .ie => memWrite a v s

/-- Bytes placed from address `a` on. -/
def placeBytes : Word → List Byte → State → State
  | _, [], s => s
  | a, v :: r, s => placeBytes (a + 1) r (placeByte a v s)

/-- The next step of a machine that is not halted, has not failed and has no HALT bug pending fetches at PC. -/
def readyToFetch (s : State) : State := { s with halted := false, haltBug := false, failure := none }

/-- The bytes placed where the next step fetches: at PC, or in WRAM at 0xC000, with PC there, where PC's bytes cannot be placed. -/
def placeAtFetch (bs : List Byte) (s : State) : State :=
  let s1 := readyToFetch s
  let pc := s1.regs.pc
  if placeable pc && placeable (pc + 1) && placeable (pc + 2) then placeBytes pc bs s1
  else placeBytes 0xC000 bs (setPc 0xC000 s1)

end Sys2Proof.Machine
end

