-- ==== Sys2Proof/Machine/Step.lean ====
section
/-!
DEFINITION. `step()` (60 R400): one fetch-decode-execute-interrupt-check cycle.
-/

namespace Sys2Proof.Machine

open Sys2Proof

/-- One step (60 R400). With a failure latched there is no further step (60 R452). -/
def step (s : State) : Host.Outcome State Fault Refusal :=
  match s.failure with
  | some f => .fault (.unimplementedOpcode f.pc f.opcode)
  | none => if s.halted then .next (haltedStep s) else completeStep (exec (fetchInstr s) s)

/-- `s` with the instruction of a table word where the next step fetches it, and nothing in the way of that fetch: not halted, no
failure latched, no HALT bug pending (log entry 14). -/
def State.withFetchWord (s : State) (nbits w : Nat) : State := placeAtFetch (tableBytes nbits w) s

end Sys2Proof.Machine
end

