-- ==== Sys2Proof/Machine/HostApi.lean ====
section
/-!
DEFINITION. The host's operations between steps, but for `load` (Load.lean) and `step` (HostStep.lean): 60 R453-R457.
-/

namespace Sys2Proof.Machine

open Sys2Proof

/-- `request_interrupt(i)`: refused for `i` outside 0 to 4 (60 R453). -/
def hostRequestInterrupt (i : Nat) (s : State) : Result :=
  if i ≤ 4 then .next (requestInterrupt i s) else .refused (.noSuchInterruptSource i)

/-- `bus_read(a)` (60 R454). -/
def hostBusRead (a : Word) (s : State) : Byte := memRead a s

/-- `bus_write(a, v)`: the same effects as a CPU access (60 R454). -/
def hostBusWrite (a : Word) (v : Byte) (s : State) : State := memWrite a v s

/-- `snapshot()`: the register file and PC (60 R455). -/
def hostSnapshot (s : State) : Regs := { s.regs with f := readF s }

/-- `restore(regs)`: F is stored as `F & 0xF0`, and nothing else is touched (60 R455). -/
def hostRestore (r : Regs) (s : State) : State := { s with regs := { r with f := r.f &&& 0xF0 } }

/-- `interrupt_pending()`: IME does not enter it (60 R456). -/
def hostInterruptPending (s : State) : Bool := pendingInterrupts s != 0

/-- `failing_pc()` (60 R457). -/
def hostFailingPc (s : State) : Option Word := s.failure.map (fun f => f.pc)

end Sys2Proof.Machine
end

