-- ==== Sys2Proof/Machine/HostStep.lean ====
section
/-!
DEFINITION. `step()` as the host sees it (60 R450, R452): the result it returns, `Ok(m)` or `Fail(...)`, beside the state after it.
-/

namespace Sys2Proof.Machine

open Sys2Proof

/-- What `step()` returns (60 R450). -/
inductive StepResult where
  /-- `Ok(m)`: the M-cycles the step consumed (60 R405). -/
  | ok (m : Nat)
  /-- `Fail(UnimplementedOpcode(pc, opcode))` (60 R410). -/
  | fail (f : UnimplementedOpcode)
  deriving DecidableEq, Repr

/-- The result that a step into `t` returned. -/
def stepResult (t : State) : StepResult :=
  match t.failure with
  | some f => .fail f
  | none => .ok t.cycles

/-- `step()`: after a failure it returns the same `Fail` again and changes nothing (60 R452). -/
def hostStep (s : State) : Host.Outcome (StepResult × State) Fault Refusal :=
  match step s with
  | .next t => .next (stepResult t, t)
  | .fault (.unimplementedOpcode pc opcode) => .next (.fail ⟨pc, opcode⟩, s)
  | .refused q => .refused q

end Sys2Proof.Machine
end

