-- ==== Sys2Proof/Machine/Load.lean ====
section
/-!
DEFINITION. Loading a cartridge image: the header (70 R475), the variant (20 R110) and the RAM size (20 R112), the checks (70 R476,
R477), and the instance that a load creates, which is power-on reset (70 R470).
-/

namespace Sys2Proof.Machine

open Sys2Proof

/-- The kinds of `InvalidRom` (70 R477). -/
inductive InvalidRom where
  | tooShort | checksumMismatch | unsupportedCartridge
  deriving DecidableEq, Repr

/-- The draws that no source fixes (00 R8): MEM_INIT for each RAM array, IO_INIT, RTC_READ and DIV_INIT. -/
structure Draws where
  vram : Cells
  extRam : Cells
  wram : Cells
  oam : Cells
  io : Cells
  hram : Cells
  rtcRead : Byte
  divInit : Word
  deriving DecidableEq, Repr

/-- `image[p]`. -/
def imageByte (image : List Byte) (p : Nat) : Byte := image.getD p 0

/-- `header_checksum(image)` over 0x0134 to 0x014C (70 R478). -/
def headerChecksum (image : List Byte) : Byte := ((image.drop 0x0134).take 25).foldl (fun x v => x - v - 1) 0

/-- The header's fields; the title stops at the first 0x00 (70 R475). -/
def parseHeader (image : List Byte) : Header where
  title := ((image.drop 0x0134).take 16).takeWhile (fun v => v != 0)
  cartridgeType := imageByte image 0x0147
  romSizeCode := imageByte image 0x0148
  ramSizeCode := imageByte image 0x0149
  checksum := imageByte image 0x014D

/-- The variant of a cartridge-type byte, and whether it has external RAM (20 R110). -/
def variantOf (t : Byte) : Option (MbcKind × Bool) :=
  match t.toNat with
  | 0x00 => some (.romOnly, false)
  | 0x01 => some (.mbc1, false)
  | 0x02 | 0x03 => some (.mbc1, true)
  | 0x05 | 0x06 => some (.mbc2, true)
  | 0x08 | 0x09 => some (.romOnly, true)
  | 0x0F | 0x11 => some (.mbc3, false)
  | 0x10 | 0x12 | 0x13 => some (.mbc3, true)
  | 0x19 | 0x1C => some (.mbc5, false)
  | 0x1A | 0x1B | 0x1D | 0x1E => some (.mbc5, true)
  | _ => none

/-- The RAM size of a RAM-size code (20 R112). -/
def ramSizeOfCode (code : Byte) : Option Nat :=
  match code.toNat with
  | 0x00 => some 0
  | 0x01 => some 2048
  | 0x02 => some 8192
  | 0x03 => some 32768
  | 0x04 => some 131072
  | 0x05 => some 65536
  | _ => none

/-- `RAM_SIZE`: 512 cells for MBC2, which ignores the code; otherwise by the code, which is refused outside its table, and 0 without
external RAM (20 R112, 70 R477, 92 D24). DEDUCED, safe (log entry 18): the code is checked without external RAM too. -/
def ramSizeFor (k : MbcKind) (hasRam : Bool) (code : Byte) : Option Nat :=
  if k = .mbc2 then some 512 else (ramSizeOfCode code).map (fun size => if hasRam then size else 0)

/-- The fresh instance of an image: its arrays, and 10 R56 for all else (70 R476). -/
def freshInstance (image : List Byte) (k : MbcKind) (ramSize : Nat) (d : Draws) : State :=
  { State.reset with
    timer := { State.reset.timer with divCounter := d.divInit }
    cart := { kind := k, romLen := image.length, ramSize := ramSize, header := parseHeader image, rtcRead := d.rtcRead }
    mem :=
      { rom := cellsOfBytes 0 image, vram := d.vram, extRam := d.extRam, wram := d.wram, oam := d.oam, io := d.io,
        hram := d.hram } }

/-- `load(image)`: the first failing check is reported and nothing is created (70 R476). The header is in the instance. -/
def load (image : List Byte) (d : Draws) : Except InvalidRom State :=
  if image.length < 0x0150 then .error .tooShort
  else if headerChecksum image ≠ imageByte image 0x014D then .error .checksumMismatch
  else
    match variantOf (imageByte image 0x0147) with
    | none => .error .unsupportedCartridge
    | some v =>
      match ramSizeFor v.1 v.2 (imageByte image 0x0149) with
      | none => .error .unsupportedCartridge
      | some size => .ok (freshInstance image v.1 size d)

end Sys2Proof.Machine
end

