-- ==== Sys2Proof/Safety.lean ====
section
/-!
DEFINITION. The terms statements are written in: what a safe run is, the invariants of the machine, the state at the
check that ends a step, and the frames, which say what an instruction leaves unchanged.
-/

namespace Sys2Proof.Machine

open Sys2Proof

/-! ## Safety and invariants -/

/-- A state is safe while no failure is latched: stepping goes on (60 R410, R452). -/
def Safe (s : State) : Prop := s.failure = none

/-- F's low nibble is zero (10 R34). -/
abbrev FlagNibbleZero (s : State) : Prop := s.regs.f &&& 0x0F = 0

/-- The deferred-enable counter and the reload countdown have a value the spec gives them (10 R39, R50). -/
abbrev CountersInRange (s : State) : Prop := s.imeDelay ≤ 2 ∧ s.timer.timaReload ≤ 4

/-- What the spec's clears keep apart (92 D6, 60 R425): no enable is pending while IME is set; a halted CPU has no HALT bug pending;
the HALT bug is pending only while IME is clear. -/
abbrev InterruptControlConsistent (s : State) : Prop :=
  (s.ime = true → s.imeDelay = 0) ∧ (s.halted = true → s.haltBug = false) ∧ (s.haltBug = true → s.ime = false)

/-- Every memory array is in canonical form within its size (10 R51), and MBC2's RAM has its 512 cells (20 R112). -/
abbrev MemoryCanonical (s : State) : Prop :=
  Memory.wf s.cart s.mem ∧ (s.cart.kind = .mbc2 → s.cart.ramSize = 512)

/-- The bank registers hold a value their variant's register can hold: never ROM bank 0 on MBC1, MBC2 and MBC3 (10 R52, 20 R114,
R117, R120). -/
abbrev BankRegistersInRange (s : State) : Prop :=
  match s.cart.kind with
  | .romOnly => s.mbc = State.reset.mbc
  | .mbc1 => 1 ≤ s.mbc.romBank.toNat ∧ s.mbc.romBank.toNat ≤ 0x1F ∧ s.mbc.ramBank.toNat ≤ 3
  | .mbc2 => 1 ≤ s.mbc.romBank.toNat ∧ s.mbc.romBank.toNat ≤ 0x0F ∧ s.mbc.ramBank = 0 ∧ s.mbc.mode = false
  | .mbc3 => 1 ≤ s.mbc.romBank.toNat ∧ s.mbc.romBank.toNat ≤ 0x7F ∧ s.mbc.mode = false
  | .mbc5 => s.mbc.mode = false

/-! ## The end of a step -/

/-- IF after the clocks of the step that left `t`: with the timer's request where TIMA overflowed (60 R400, R436, R437). -/
def flagsAfterClocks (t : State) : BitVec 5 :=
  if (timerRun (4 * t.cycles) t.timer).2 then t.iflag ||| 0b00100#5 else t.iflag

/-- `t` at the check of its step: four clocks of the timer for each M-cycle, then the EI countdown, and nothing else (60 R400). -/
def beforeCheck (t : State) : State :=
  { t with
    timer := (timerRun (4 * t.cycles) t.timer).1
    iflag := flagsAfterClocks t
    ime := t.ime || decide (t.imeDelay = 1)
    imeDelay := t.imeDelay - 1 }

/-! ## Frames -/

/-- The registers but for those listed are unchanged. -/
abbrev KeepsR8 (but : List R8) (s t : State) : Prop := ∀ r, r ∉ but → readR8 r t = readR8 r s

/-- The registers but for those listed, SP and F are unchanged. -/
abbrev KeepsRegs (but : List R8) (s t : State) : Prop :=
  KeepsR8 but s t ∧ t.regs.sp = s.regs.sp ∧ t.regs.f = s.regs.f

/-- The interrupt-control, halt and failure state is unchanged. -/
abbrev KeepsControl (s t : State) : Prop :=
  t.ime = s.ime ∧ t.imeDelay = s.imeDelay ∧ t.halted = s.halted ∧ t.failure = s.failure

/-- Everything a bus access can read or write is equal: the memory arrays, the bank registers, the cartridge, the timer, IE and
IF. -/
abbrev SameBus (s t : State) : Prop :=
  t.mem = s.mem ∧ t.mbc = s.mbc ∧ t.cart = s.cart ∧ t.timer = s.timer ∧ t.ie = s.ie ∧ t.iflag = s.iflag

/-- Nothing on the bus is changed, and every address reads as before. -/
abbrev KeepsBus (s t : State) : Prop := SameBus s t ∧ ∀ x, memRead x t = memRead x s

/-- The cell of `wram` that an address of WRAM or of its echo names (20 R82). -/
def wramCell (a : Word) : Nat := if regionOf a = .wram then a.toNat - 0xC000 else a.toNat - 0xE000

/-- Whether a store at `a` can change what address `x` reads as: a control write reaches the banked windows (20 R76, R99), a store
to WRAM or its echo the two names of one cell (R82), a store to external RAM the window's names of one cell (R112, R119), a write
of DIV or TAC also TIMA and IF (60 R433, R436), and any other store its own address. -/
def storeReaches (s : State) (a x : Word) : Bool :=
  match regionOf a with
  | .rom0 | .romx => regionOf x = .rom0 || regionOf x = .romx || regionOf x = .extRam
  | .vram | .oam | .hram | .ie => x = a
  | .extRam =>
    regionOf x = .extRam &&
      decide (extRamCell s.cart s.mbc (x.toNat - 0xA000) = extRamCell s.cart s.mbc (a.toNat - 0xA000))
  | .wram | .echo => (regionOf x = .wram || regionOf x = .echo) && decide (wramCell x = wramCell a)
  | .gap => false
  | .io => x = a || ((a = 0xFF04 || a = 0xFF07) && (x = 0xFF05 || x = 0xFF0F))

/-- `t`'s bus is that of `s` after the store of `v` at `a`, and every address the store does not reach reads as before. -/
abbrev StoresByte (a : Word) (v : Byte) (s t : State) : Prop :=
  SameBus (memWrite a v s) t ∧ ∀ x, storeReaches s a x = false → memRead x t = memRead x s

/-- `t`'s bus is that of `s` after the store of `v1` at `a1` and then of `v2` at `a2`, and every address neither store reaches reads
as before. -/
abbrev StoresTwo (a1 : Word) (v1 : Byte) (a2 : Word) (v2 : Byte) (s t : State) : Prop :=
  SameBus (memWrite a2 v2 (memWrite a1 v1 s)) t ∧
  ∀ x, storeReaches s a1 x = false → storeReaches (memWrite a1 v1 s) a2 x = false → memRead x t = memRead x s

/-- `t`'s bus is that of `s` after the push of `v`: the high byte at SP-1, then the low byte at SP-2 (40 R221). -/
abbrev Pushes (v : Word) (s t : State) : Prop :=
  StoresTwo (s.regs.sp - 1) (hiByte v) (s.regs.sp - 2) (loByte v) s t ∧ t.regs.sp = s.regs.sp - 2

/-- The operand holds `v`: a register, with the others and the bus unchanged; or the byte at HL, stored there, with the registers
unchanged. -/
abbrev WritesOperand (o : Operand8) (v : Byte) (s t : State) : Prop :=
  match o with
  | .reg r => readR8 r t = v ∧ KeepsR8 [r] s t ∧ KeepsBus s t
  | .memHl => KeepsR8 [] s t ∧ StoresByte (readHl s) v s t

/-- PC is `pc`, the HALT bug is over, `m` M-cycles are reported, and the interrupt-control, halt and failure state is unchanged. -/
abbrev GoesTo (pc : Word) (m : Nat) (s t : State) : Prop :=
  t.regs.pc = pc ∧ t.haltBug = false ∧ t.cycles = m ∧ KeepsControl s t

/-- PC is past the instruction's `len` bytes, the HALT bug is over, `m` M-cycles are reported, and the interrupt-control, halt and
failure state is unchanged. -/
abbrev Advances (len m : Nat) (s t : State) : Prop :=
  GoesTo (pcAfterFetch len s) m s t

/-- The four flags, in bits 7, 6, 5 and 4 of F, with F's low nibble 0 (10 R34, R35). -/
abbrev HasFlags (z n hf cy : Bool) (t : State) : Prop :=
  getFlags t = ⟨z, n, hf, cy⟩ ∧ t.regs.f.toNat = 128 * bitNat z + 64 * bitNat n + 32 * bitNat hf + 16 * bitNat cy

end Sys2Proof.Machine
end

