-- ==== Sys2Proof/WellFormed.lean ====
section
/-!
DEFINITION. Which terms of `Instr` stand for an instruction of their own. Every operand takes every value of its width (30 R147), so
the only check is that the term is not the row PREFIX_CB, which names a prefix and not an instruction (30 R154; log entry 8).
-/

namespace Sys2Proof

/-- The prefix 0xCB "is not itself an instruction" (30 R154): with its second byte it is the extended row of that byte. -/
def isBarePrefix (i : Instr) : Bool :=
  match i with
  | .prefixCb _ => true
  | _ => false

/-- The term is an instruction that the decoder can yield. -/
def wellFormed (i : Instr) : Bool := !isBarePrefix i

end Sys2Proof
end

