-- ==== Sys2Proof/Certificates/Slice0/Obligations.lean ====
section
/-!
DEFINITION. The statements for the provers. First the terms they are written in that no model file gives: the values of the
instruction fields (30 R141-R146), the primary table by fields (30 R148), results in integer arithmetic. Then the statements: the
encoding, the instructions family by family, the step, interrupts, the timer, the bus, the cartridge, load and reset, the host's
operations, the invariants.
-/

namespace Sys2Proof.Statements

open Sys2Proof Sys2Proof.Machine

/-! ## Fields -/

/-- The 3-bit field of a register (30 R143). -/
def fieldOf (r : R8) : Nat :=
  match r with
  | .b => 0 | .c => 1 | .d => 2 | .e => 3 | .h => 4 | .l => 5 | .a => 7

/-- The 3-bit field of a register or (HL) (30 R143). -/
def operandField (o : Operand8) : Nat :=
  match o with
  | .reg r => fieldOf r
  | .memHl => 6

/-- The 2-bit field of `R16` (30 R144). -/
def pairField (p : R16) : Nat :=
  match p with
  | .bc => 0 | .de => 1 | .hl => 2 | .sp => 3

/-- The 2-bit field of `R16STK` (30 R144). -/
def stackField (p : R16Stk) : Nat :=
  match p with
  | .bc => 0 | .de => 1 | .hl => 2 | .af => 3

/-- The 2-bit field of `R16MEM` (30 R145). -/
def indirectField (p : R16Mem) : Nat :=
  match p with
  | .bc => 0 | .de => 1 | .hlInc => 2 | .hlDec => 3

/-- The 2-bit field `cc` (30 R146). -/
def condField (cc : Cond) : Nat :=
  match cc with
  | .nz => 0 | .z => 1 | .nc => 2 | .c => 3

/-- The field `ooo` of an ALU operation (41 R240). -/
def aluField (op : AluOp) : Nat :=
  match op with
  | .add => 0 | .adc => 1 | .sub => 2 | .sbc => 3 | .and => 4 | .xor => 5 | .or => 6 | .cp => 7

/-- The field `y` of an extended rotate or shift (30 R149). -/
def rotField (op : RotOp) : Nat :=
  match op with
  | .rlc => 0 | .rrc => 1 | .rl => 2 | .rr => 3 | .sla => 4 | .sra => 5 | .swap => 6 | .srl => 7

/-- The operands in the order of their field (30 R143). -/
def operands : List Operand8 := [.reg .b, .reg .c, .reg .d, .reg .e, .reg .h, .reg .l, .memHl, .reg .a]

/-- `R8[y] <- R8[z]` for the fields of `01yyyzzz`; both fields 6 is HALT (30 R148). -/
def ldOfOperands (dst src : Operand8) : Instr :=
  match dst, src with
  | .reg q, .reg r => Families.ldReg q r
  | .reg q, .memHl => Families.ldRegMem q
  | .memHl, .reg r => Families.ldMemReg r
  | .memHl, .memHl => .halt

/-- `LD R8[y],d8` (30 R148). -/
def ldImmOf (dst : Operand8) (n : Byte) : Instr :=
  match dst with
  | .reg q => Families.ldRegImm q n
  | .memHl => .ldMemHlD8 n

/-- The source of an ALU operation for the operand of its field (41 R240). -/
def sourceOf (o : Operand8) : Families.AluSource :=
  match o with
  | .reg r => .reg r
  | .memHl => .memHl

/-- The ALU operations in the order of their field (30 R148). -/
def aluOps : List AluOp := [.add, .adc, .sub, .sbc, .and, .xor, .or, .cp]

/-- The rotates and shifts in the order of their field (30 R149). -/
def rotOps : List RotOp := [.rlc, .rrc, .rl, .rr, .sla, .sra, .swap, .srl]

/-- The pairs in the order of their field (30 R144, R145). -/
def pairs : List R16 := [.bc, .de, .hl, .sp]

/-- The pairs of the stack group in the order of their field (30 R144). -/
def stackPairs : List R16Stk := [.bc, .de, .hl, .af]

/-- The indirect group in the order of its field (30 R145). -/
def indirects : List R16Mem := [.bc, .de, .hlInc, .hlDec]

/-- The conditions in the order of their field (30 R146). -/
def conds : List Cond := [.nz, .z, .nc, .c]

/-- The row of quadrant `x = 0` (30 R148), with the operand byte `n` and the operand word `v`. -/
def quadrant0 (y z : Nat) (n : Byte) (v : Word) : Instr :=
  let p := y / 2
  let o := operands.getD y .memHl
  match z with
  | 0 =>
    match y with
    | 0 => .nop
    | 1 => .ldMemA16Sp v
    | 2 => .stop n
    | 3 => .jrE8 n
    | _ => Families.jrIf (conds.getD (y - 4) .nz) n
  | 1 => if y % 2 = 0 then Families.ldPairImm (pairs.getD p .bc) v else Families.addHl (pairs.getD p .bc)
  | 2 => if y % 2 = 0 then Families.ldIndirectA (indirects.getD p .bc) else Families.ldAIndirect (indirects.getD p .bc)
  | 3 => if y % 2 = 0 then Families.incPair (pairs.getD p .bc) else Families.decPair (pairs.getD p .bc)
  | 4 => Families.inc o
  | 5 => Families.dec o
  | 6 => ldImmOf o n
  | _ => [.rlca, .rrca, .rla, .rra, .daa, .cpl, .scf, .ccf].getD y .nop

/-- The row of quadrant `x = 3` (30 R148). -/
def quadrant3 (y z : Nat) (n : Byte) (v : Word) : Instr :=
  let p := y / 2
  match z with
  | 0 => if y < 4 then Families.retIf (conds.getD y .nz) else [.ldhMemA8A n, .addSpE8 n, .ldhAMemA8 n, .ldHlSpE8 n].getD (y - 4) .nop
  | 1 => if y % 2 = 0 then Families.pop (stackPairs.getD p .bc) else [.ret, .reti, .jpHl, .ldSpHl].getD p .nop
  | 2 => if y < 4 then Families.jpIf (conds.getD y .nz) v else [.ldhMemCA, .ldMemA16A v, .ldhAMemC, .ldAMemA16 v].getD (y - 4) .nop
  | 3 => [.jpA16 v, .prefixCb n, .illegalD3, .illegalDB, .illegalE3, .illegalEB, .di, .ei].getD y .nop
  | 4 => if y < 4 then Families.callIf (conds.getD y .nz) v else [.illegalE4, .illegalEC, .illegalF4, .illegalFC].getD (y - 4) .nop
  | 5 => if y % 2 = 0 then Families.push (stackPairs.getD p .bc) else [.callA16 v, .illegalDD, .illegalED, .illegalFD].getD p .nop
  | 6 => Families.alu (aluOps.getD y .add) (.imm n)
  | _ => Families.rst (Fin.ofNat 8 y)

/-- The primary table by quadrant (30 R148). -/
def primaryByFields (op n1 n2 : Byte) : Instr :=
  let y := op.toNat / 8 % 8
  let z := op.toNat % 8
  match op.toNat / 64 with
  | 0 => quadrant0 y z n1 (pairOf n2 n1)
  | 1 => ldOfOperands (operands.getD y .memHl) (operands.getD z .memHl)
  | 2 => Families.alu (aluOps.getD y .add) (sourceOf (operands.getD z .memHl))
  | _ => quadrant3 y z n1 (pairOf n2 n1)

/-- The extended table by quadrant (30 R149). -/
def extendedByFields (op2 : Byte) : Instr :=
  let y := op2.toNat / 8 % 8
  let o := operands.getD (op2.toNat % 8) .memHl
  match op2.toNat / 64 with
  | 0 => Families.rotate (rotOps.getD y .rlc) o
  | 1 => Families.bitTest (Fin.ofNat 8 y) o
  | 2 => Families.bitReset (Fin.ofNat 8 y) o
  | _ => Families.bitSet (Fin.ofNat 8 y) o

/-! ## Operands and results -/

/-- The value of an ALU source (41 R240). -/
def sourceValue (src : Families.AluSource) (s : State) : Byte :=
  match src with
  | .reg r => readR8 r s
  | .memHl => memRead (readHl s) s
  | .imm n => n

/-- The length of an ALU form (41 R240). -/
def sourceLength (src : Families.AluSource) : Nat :=
  match src with
  | .reg _ => 1 | .memHl => 1 | .imm _ => 2

/-- The cost of an ALU form (41 R240). -/
def sourceCost (src : Families.AluSource) : Nat :=
  match src with
  | .reg _ => 1 | .memHl => 2 | .imm _ => 2

/-- The encoding of an ALU form (41 R240). -/
def aluBytes (op : AluOp) (src : Families.AluSource) : List Byte :=
  match src with
  | .reg r => [byteOf (0x80 + 8 * aluField op + fieldOf r)]
  | .memHl => [byteOf (0x86 + 8 * aluField op)]
  | .imm n => [byteOf (0xC6 + 8 * aluField op), n]

/-- The carry-in of ADD, ADC, SUB, SBC and CP (41 R243-R246, R250). -/
def carryIn (op : AluOp) (s : State) : Nat :=
  match op with
  | .adc => bitNat (getFlags s).cy
  | .sbc => bitNat (getFlags s).cy
  | .add => 0 | .sub => 0 | .and => 0 | .xor => 0 | .or => 0 | .cp => 0

/-- The cost of a register or (HL) form, `r` or `m` (43 R300). -/
def operandCost (o : Operand8) (r m : Nat) : Nat :=
  match o with
  | .reg _ => r
  | .memHl => m

/-- The result of a rotate or shift of `v` with carry `cy`, in integer arithmetic, and the carry out (43 R301-R312). -/
def rotated (op : RotOp) (v cy : Nat) : Nat × Bool :=
  match op with
  | .rlc => (v * 2 % 256 + v / 128, decide (128 ≤ v))
  | .rrc => (v / 2 + v % 2 * 128, decide (v % 2 = 1))
  | .rl => (v * 2 % 256 + cy, decide (128 ≤ v))
  | .rr => (v / 2 + cy * 128, decide (v % 2 = 1))
  | .sla => (v * 2 % 256, decide (128 ≤ v))
  | .sra => (v / 2 + v / 128 * 128, decide (v % 2 = 1))
  | .swap => (v % 16 * 16 + v / 16, false)
  | .srl => (v / 2, decide (v % 2 = 1))

/-- The condition `cc` in terms of the flags (30 R146). -/
def condTrue (cc : Cond) (s : State) : Prop :=
  match cc with
  | .nz => (getFlags s).z = false
  | .z => (getFlags s).z = true
  | .nc => (getFlags s).cy = false
  | .c => (getFlags s).cy = true

/-- The address an access through `R16MEM[p]` uses (30 R145). -/
def indirectAt (p : R16Mem) (s : State) : Word :=
  match p with
  | .bc => pairOf s.regs.b s.regs.c
  | .de => pairOf s.regs.d s.regs.e
  | .hlInc => pairOf s.regs.h s.regs.l
  | .hlDec => pairOf s.regs.h s.regs.l

/-- What an access through `R16MEM[p]` adds to HL (30 R145). -/
def hlStep (p : R16Mem) : Word :=
  match p with
  | .bc => 0 | .de => 0 | .hlInc => 1 | .hlDec => 0xFFFF

/-- H and L, where an access through `R16MEM[p]` steps HL (30 R145). -/
def hlOf (p : R16Mem) : List R8 :=
  match p with
  | .bc => [] | .de => [] | .hlInc => [.h, .l] | .hlDec => [.h, .l]

/-- The twelve bytes that raise UnimplementedOpcode (60 R410). -/
def undefinedBytes : List Byte := [0x10, 0xD3, 0xDB, 0xDD, 0xE3, 0xE4, 0xEB, 0xEC, 0xED, 0xF4, 0xFC, 0xFD]

/-- The bytes that the fetches of a step read, in order: under the HALT bug the byte at PC twice (60 R404). -/
def streamBytes (s : State) : List Byte :=
  if s.haltBug then [memRead s.regs.pc s, memRead s.regs.pc s, memRead (s.regs.pc + 1) s]
  else [memRead s.regs.pc s, memRead (s.regs.pc + 1) s, memRead (s.regs.pc + 2) s]

/-- TIMA's period in clocks (60 R432). -/
def timaPeriod (tac : BitVec 3) : Nat :=
  match tac.toNat % 4 with
  | 0 => 1024 | 1 => 16 | 2 => 64 | _ => 256

/-- A timer whose signal fell: TIMA one more, or the overflow (60 R434). -/
def afterFall (t u : Timer) (f g : BitVec 5) : Prop :=
  if t.tima = 0xFF then u.tima = 0x00 ∧ u.timaReload = 4 ∧ g = f ||| 0b00100#5
  else u.tima = t.tima + 1 ∧ u.timaReload = t.timaReload ∧ g = f

/-- The ROM bank that a window's variant selects (20 R113, R115, R118, R121, R124). -/
def switchableBank (s : State) : Nat :=
  match s.cart.kind with
  | .romOnly => 1
  | .mbc1 => s.mbc.ramBank.toNat * 32 ||| s.mbc.romBank.toNat
  | .mbc2 => s.mbc.romBank.toNat
  | .mbc3 => s.mbc.romBank.toNat
  | .mbc5 => s.mbc.romBank.toNat

/-- The bank of the fixed window: not 0 only on MBC1 in mode 1 (20 R74, R115). -/
def fixedBank (s : State) : Nat := if s.cart.kind = .mbc1 ∧ s.mbc.mode = true then s.mbc.ramBank.toNat * 32 else 0

/-- The image byte at an offset of a bank, the bank taken modulo the banks present (20 R111). -/
def imageAt (s : State) (bank off : Nat) : Byte :=
  let p := bank % ((s.cart.romLen + 0x3FFF) / 0x4000) * 0x4000 + off
  if p < s.cart.romLen then cellsGet s.mem.rom p else 0xFF

/-- The RAM bank that the window shows (20 R113, R116, R122, R125): MBC1's only in mode 1; ROM-only has bank 0. -/
def ramBankShown (s : State) : Nat :=
  match s.cart.kind with
  | .romOnly => 0
  | .mbc1 => if s.mbc.mode = true then s.mbc.ramBank.toNat else 0
  | .mbc2 => 0
  | .mbc3 => s.mbc.ramBank.toNat
  | .mbc5 => s.mbc.ramBank.toNat

/-- The cell of external RAM that address `a` of the window shows: the bank taken modulo the banks present, and a RAM smaller than the
window mirrored (20 R112). -/
def ramCellAt (s : State) (a : Word) : Nat :=
  (ramBankShown s % max 1 (s.cart.ramSize / 0x2000) * 0x2000 + (a.toNat - 0xA000)) % s.cart.ramSize

/-- Address `a` is cell `p` of external RAM: it reads the cell, a write stores there and nowhere else, and reads back. -/
def showsRamCell (a : Word) (v : Byte) (p : Nat) (s : State) : Prop :=
  memRead a s = cellsGet s.mem.extRam p ∧
  memWrite a v s = { s with mem := { s.mem with extRam := cellsSet s.mem.extRam p v } } ∧
  memRead a (memWrite a v s) = v

/-- The cartridge-type bytes: the variant, and whether external RAM is present (20 R110). -/
def cartridgeTypes : List (Byte × MbcKind × Bool) := [
  (0x00, .romOnly, false), (0x01, .mbc1, false), (0x02, .mbc1, true), (0x03, .mbc1, true), (0x05, .mbc2, true), (0x06, .mbc2, true),
  (0x08, .romOnly, true), (0x09, .romOnly, true), (0x0F, .mbc3, false), (0x10, .mbc3, true), (0x11, .mbc3, false),
  (0x12, .mbc3, true), (0x13, .mbc3, true), (0x19, .mbc5, false), (0x1A, .mbc5, true), (0x1B, .mbc5, true), (0x1C, .mbc5, false),
  (0x1D, .mbc5, true), (0x1E, .mbc5, true)]

/-- The RAM-size codes and the bytes of RAM (20 R112). -/
def ramSizeCodes : List (Byte × Nat) :=
  [(0x00, 0), (0x01, 2048), (0x02, 8192), (0x03, 32768), (0x04, 131072), (0x05, 65536)]

/-- The header of `image` selects variant `k` with `size` bytes of RAM: MBC2 has its 512 cells whatever the code is, and any other
variant needs a code of the table, whose size counts where external RAM is present (20 R110, R112; 92 D24). -/
def selects (image : List Byte) (k : MbcKind) (size : Nat) : Prop :=
  ∃ present, (image.getD 0x0147 0, k, present) ∈ cartridgeTypes ∧
    (k = .mbc2 ∧ size = 512 ∨
     k ≠ .mbc2 ∧ ∃ n, (image.getD 0x0149 0, n) ∈ ramSizeCodes ∧ size = if present = true then n else 0)

/-- The header checksum in integer arithmetic: minus each of the 25 bytes from 0x0134 and minus 1 for each, modulo 256 (70 R478). -/
def checksumOf (image : List Byte) : Int :=
  (-((List.range 25).map (fun i => ((image.getD (0x0134 + i) 0).toNat : Int))).sum - 25) % 256

/-- The draws list only addresses of their arrays, in canonical form, for a RAM of `ramSize` bytes (10 R51). -/
def drawsCanonical (d : Draws) (ramSize : Nat) : Prop :=
  Cells.wf 0 0x2000 d.vram ∧ Cells.wf 0 ramSize d.extRam ∧ Cells.wf 0 0x2000 d.wram ∧ Cells.wf 0 0xA0 d.oam ∧
  Cells.wf 0xFF00 0xFF80 d.io ∧ Cells.wf 0 0x7F d.hram ∧ ∀ x ∈ d.io, isCoreIo x.1 = false

end Sys2Proof.Statements

open Sys2Proof Sys2Proof.Machine Sys2Proof.Statements

/-! ## Encoding -/

/-- Decoding the words of any well-formed instruction gives it back, whatever follows them. No bit of an encoding is dropped. That the
row PREFIX_CB is not well-formed is the model's choice (log entry 8), and that STOP carries its second byte is too (log entry 7). -/
def Obligations.DecodeUndoesEncode : Prop :=
  ∀ (i : Instr) (rest : List Byte), wellFormed i = true → decode (encode i ++ rest) = .ok (i, rest)

/-- Where the decoder reads an instruction from bytes, the bytes are that instruction's words and what follows: no two instructions
share words, and only well-formed instructions are read. That the row PREFIX_CB is not well-formed is the model's choice (log entry
8). -/
def Obligations.EncodeUndoesDecode : Prop :=
  ∀ (bs : List Byte) (i : Instr) (rest : List Byte), decode bs = .ok (i, rest) → wellFormed i = true ∧ encode i ++ rest = bs

/-- 30 R148: the primary table by its quadrants and fields. 0xCB is the prefix (`PrefixRunsTheExtendedInstruction`, and the extended
table below). -/
def Obligations.PrimaryTableFollowsFields : Prop :=
  ∀ op n1 n2 : Byte, op ≠ 0xCB → decodeAt op n1 n2 = primaryByFields op n1 n2

/-- 30 R149: the extended table by its quadrants and fields, all 256 entries. -/
def Obligations.ExtendedTableFollowsFields : Prop :=
  ∀ op2 n2 : Byte, decodeAt 0xCB op2 n2 = extendedByFields op2

/-- A few words written out from the encodings of the rules: LD B,5 (40 R202), LD (0xC100),SP (R219), SUB E (41 R245), ADD HL,DE
(42 R280), BIT 7,H (43 R313), JR NZ,-4 (44 R335), CALL 0x0200 (R336), RST 0x28 (R341), HALT (45 R372), 0xD3 (R376). The last clause,
that a CALL cut short is refused as truncated, and that 0xD3 decodes to a row of its own, are the model's choice (log entry 15). -/
def Obligations.WrittenWordsDecode : Prop :=
  decode [0b00000110, 0x05] = .ok (.ldBD8 0x05, []) ∧
  decode [0b00001000, 0x00, 0xC1] = .ok (.ldMemA16Sp 0xC100, []) ∧
  decode [0b10010011] = .ok (.subE, []) ∧
  decode [0b00011001] = .ok (.addHlDe, []) ∧
  decode [0b11001011, 0b01111100] = .ok (.bit7H, []) ∧
  decode [0b00100000, 0xFC] = .ok (.jrNzE8 0xFC, []) ∧
  decode [0b11001101, 0x00, 0x02] = .ok (.callA16 0x0200, []) ∧
  decode [0b11101111] = .ok (.rst28, []) ∧
  decode [0b01110110] = .ok (.halt, []) ∧
  decode [0xD3] = .ok (.illegalD3, []) ∧
  decode [0b11001101, 0x00] = .error .truncated

/-! ## Loads, stores and the stack (40_loads.md) -/

/-- 40 R201, R202, R203: LD r,r' (49 instructions), LD r,d8 (7) and LD r,(HL) (7), with their frames. -/
def Obligations.RegisterLoads : Prop :=
  (∀ (dst src : R8) (s : State),
    encode (Families.ldReg dst src) = [byteOf (0x40 + 8 * fieldOf dst + fieldOf src)] ∧
    ∃ t, exec (Families.ldReg dst src) s = .next t ∧ readR8 dst t = readR8 src s ∧ KeepsRegs [dst] s t ∧ KeepsBus s t ∧
      Advances 1 1 s t) ∧
  (∀ (dst : R8) (n : Byte) (s : State),
    encode (Families.ldRegImm dst n) = [byteOf (0x06 + 8 * fieldOf dst), n] ∧
    ∃ t, exec (Families.ldRegImm dst n) s = .next t ∧ readR8 dst t = n ∧ KeepsRegs [dst] s t ∧ KeepsBus s t ∧
      Advances 2 2 s t) ∧
  (∀ (dst : R8) (s : State),
    encode (Families.ldRegMem dst) = [byteOf (0x46 + 8 * fieldOf dst)] ∧
    ∃ t, exec (Families.ldRegMem dst) s = .next t ∧ readR8 dst t = memRead (pairOf s.regs.h s.regs.l) s ∧ KeepsRegs [dst] s t ∧
      KeepsBus s t ∧ Advances 1 2 s t)

/-- 40 R204, R205: LD (HL),r (7 instructions) and LD (HL),d8. -/
def Obligations.StoresAtHl : Prop :=
  (∀ (src : R8) (s : State),
    encode (Families.ldMemReg src) = [byteOf (0x70 + fieldOf src)] ∧
    ∃ t, exec (Families.ldMemReg src) s = .next t ∧ StoresByte (pairOf s.regs.h s.regs.l) (readR8 src s) s t ∧ KeepsRegs [] s t ∧
      Advances 1 2 s t) ∧
  (∀ (n : Byte) (s : State),
    encode (.ldMemHlD8 n) = [0b00110110, n] ∧
    ∃ t, exec (.ldMemHlD8 n) s = .next t ∧ StoresByte (pairOf s.regs.h s.regs.l) n s t ∧ KeepsRegs [] s t ∧ Advances 2 3 s t)

/-- 40 R206-R211: LD A,(BC), LD A,(DE), LD A,(HL+), LD A,(HL-), and LD (BC),A, LD (DE),A, LD (HL+),A, LD (HL-),A. -/
def Obligations.IndirectAccumulatorTransfers : Prop :=
  (∀ (p : R16Mem) (s : State),
     encode (Families.ldAIndirect p) = [byteOf (0x0A + 16 * indirectField p)] ∧
     ∃ t, exec (Families.ldAIndirect p) s = .next t ∧ t.regs.a = memRead (indirectAt p s) s ∧
       readR16 .hl t = readR16 .hl s + hlStep p ∧ KeepsRegs (.a :: hlOf p) s t ∧ KeepsBus s t ∧ Advances 1 2 s t) ∧
  (∀ (p : R16Mem) (s : State),
     encode (Families.ldIndirectA p) = [byteOf (0x02 + 16 * indirectField p)] ∧
     ∃ t, exec (Families.ldIndirectA p) s = .next t ∧ StoresByte (indirectAt p s) s.regs.a s t ∧
       readR16 .hl t = readR16 .hl s + hlStep p ∧ KeepsRegs (hlOf p) s t ∧ Advances 1 2 s t)

/-- 40 R212-R217: LD A,(a16), LDH A,(a8), LDH A,(C), and LD (a16),A, LDH (a8),A, LDH (C),A. -/
def Obligations.AbsoluteAccumulatorTransfers : Prop :=
  (∀ (a : Word) (s : State),
    encode (.ldAMemA16 a) = [0b11111010, loByte a, hiByte a] ∧
    ∃ t, exec (.ldAMemA16 a) s = .next t ∧ t.regs.a = memRead a s ∧ KeepsRegs [.a] s t ∧ KeepsBus s t ∧ Advances 3 4 s t) ∧
  (∀ (n : Byte) (s : State),
    encode (.ldhAMemA8 n) = [0b11110000, n] ∧
    ∃ t, exec (.ldhAMemA8 n) s = .next t ∧ t.regs.a = memRead (pairOf 0xFF n) s ∧ KeepsRegs [.a] s t ∧ KeepsBus s t ∧
      Advances 2 3 s t) ∧
  (∀ s : State,
    encode .ldhAMemC = [0b11110010] ∧
    ∃ t, exec .ldhAMemC s = .next t ∧ t.regs.a = memRead (pairOf 0xFF s.regs.c) s ∧ KeepsRegs [.a] s t ∧ KeepsBus s t ∧
      Advances 1 2 s t) ∧
  (∀ (a : Word) (s : State),
    encode (.ldMemA16A a) = [0b11101010, loByte a, hiByte a] ∧
    ∃ t, exec (.ldMemA16A a) s = .next t ∧ StoresByte a s.regs.a s t ∧ KeepsRegs [] s t ∧ Advances 3 4 s t) ∧
  (∀ (n : Byte) (s : State),
    encode (.ldhMemA8A n) = [0b11100000, n] ∧
    ∃ t, exec (.ldhMemA8A n) s = .next t ∧ StoresByte (pairOf 0xFF n) s.regs.a s t ∧ KeepsRegs [] s t ∧ Advances 2 3 s t) ∧
  (∀ s : State,
    encode .ldhMemCA = [0b11100010] ∧
    ∃ t, exec .ldhMemCA s = .next t ∧ StoresByte (pairOf 0xFF s.regs.c) s.regs.a s t ∧ KeepsRegs [] s t ∧ Advances 1 2 s t)

/-- 40 R218, R219, R220: LD rr,d16 (4 instructions), LD (a16),SP, LD SP,HL. -/
def Obligations.WordLoads : Prop :=
  (∀ (p : R16) (v : Word) (s : State),
    encode (Families.ldPairImm p v) = [byteOf (0x01 + 16 * pairField p), loByte v, hiByte v] ∧
    ∃ t, exec (Families.ldPairImm p v) s = .next t ∧ readR16 p t = v ∧ (∀ q, q ≠ p → readR16 q t = readR16 q s) ∧
      t.regs.a = s.regs.a ∧ t.regs.f = s.regs.f ∧ KeepsBus s t ∧ Advances 3 3 s t) ∧
  (∀ (a : Word) (s : State),
    encode (.ldMemA16Sp a) = [0b00001000, loByte a, hiByte a] ∧
    ∃ t, exec (.ldMemA16Sp a) s = .next t ∧ StoresTwo a (loByte s.regs.sp) (a + 1) (hiByte s.regs.sp) s t ∧ KeepsRegs [] s t ∧
      Advances 3 5 s t) ∧
  (∀ s : State,
    encode .ldSpHl = [0b11111001] ∧
    ∃ t, exec .ldSpHl s = .next t ∧ t.regs.sp = pairOf s.regs.h s.regs.l ∧ KeepsR8 [] s t ∧ t.regs.f = s.regs.f ∧ KeepsBus s t ∧
      Advances 1 2 s t)

/-- 40 R221, R223: PUSH BC, DE, HL, AF. The high byte goes to SP-1 first, then the low byte to SP-2; AF is pushed with F's low
nibble 0. -/
def Obligations.PushInstructions : Prop :=
  ∀ (p : R16Stk) (s : State),
    encode (Families.push p) = [byteOf (0xC5 + 16 * stackField p)] ∧
    ∃ t, exec (Families.push p) s = .next t ∧
      Pushes
        (match p with
        | .bc => pairOf s.regs.b s.regs.c
        | .de => pairOf s.regs.d s.regs.e
        | .hl => pairOf s.regs.h s.regs.l
        | .af => pairOf s.regs.a (s.regs.f &&& 0xF0)) s t ∧
      KeepsR8 [] s t ∧ t.regs.f = s.regs.f ∧ Advances 1 4 s t

/-- 40 R222, R224, R225: POP BC, DE, HL, and POP AF, which writes the flags from the popped byte and keeps F's low nibble 0. -/
def Obligations.PopInstructions : Prop :=
  ∀ (p : R16Stk) (s : State),
    encode (Families.pop p) = [byteOf (0xC1 + 16 * stackField p)] ∧
    ∃ t, exec (Families.pop p) s = .next t ∧ t.regs.sp = s.regs.sp + 2 ∧ KeepsBus s t ∧ Advances 1 3 s t ∧
      (let lo := memRead s.regs.sp s
       let hi := memRead (s.regs.sp + 1) s
       match p with
       | .bc => t.regs.b = hi ∧ t.regs.c = lo ∧ KeepsR8 [.b, .c] s t ∧ t.regs.f = s.regs.f
       | .de => t.regs.d = hi ∧ t.regs.e = lo ∧ KeepsR8 [.d, .e] s t ∧ t.regs.f = s.regs.f
       | .hl => t.regs.h = hi ∧ t.regs.l = lo ∧ KeepsR8 [.h, .l] s t ∧ t.regs.f = s.regs.f
       | .af => t.regs.a = hi ∧ t.regs.f = lo &&& 0xF0 ∧ KeepsR8 [.a] s t)

/-! ## 8-bit arithmetic and logic (41_alu8.md) -/

/-- 41 R240, R241, R243, R244: ADD and ADC in their three forms (18 instructions). -/
def Obligations.Additions : Prop :=
  ∀ (op : AluOp) (src : Families.AluSource) (s : State), op = .add ∨ op = .adc →
    encode (Families.alu op src) = aluBytes op src ∧
    ∃ t, exec (Families.alu op src) s = .next t ∧
      (let a := s.regs.a.toNat
       let b := (sourceValue src s).toNat
       let c := carryIn op s
       t.regs.a.toNat = (a + b + c) % 256 ∧
       HasFlags (decide (t.regs.a = 0)) false (decide (a % 16 + b % 16 + c > 0x0F)) (decide (a + b + c > 0xFF)) t) ∧
      KeepsR8 [.a] s t ∧ t.regs.sp = s.regs.sp ∧ KeepsBus s t ∧ Advances (sourceLength src) (sourceCost src) s t

/-- 41 R240, R242, R245, R246, R250: SUB, SBC and CP in their three forms (27 instructions); CP leaves A as it was. -/
def Obligations.Subtractions : Prop :=
  ∀ (op : AluOp) (src : Families.AluSource) (s : State), op = .sub ∨ op = .sbc ∨ op = .cp →
    encode (Families.alu op src) = aluBytes op src ∧
    ∃ t, exec (Families.alu op src) s = .next t ∧
      (let a := s.regs.a.toNat
       let b := (sourceValue src s).toNat
       let c := carryIn op s
       let res := ((a : Int) - b - c) % 256
       (if op = .cp then t.regs.a = s.regs.a else (t.regs.a.toNat : Int) = res) ∧
       HasFlags (decide (res = 0)) true (decide (a % 16 < b % 16 + c)) (decide (a < b + c)) t) ∧
      KeepsR8 [.a] s t ∧ t.regs.sp = s.regs.sp ∧ KeepsBus s t ∧ Advances (sourceLength src) (sourceCost src) s t

/-- 41 R240, R247, R248, R249: AND, XOR and OR in their three forms (27 instructions). -/
def Obligations.LogicalOperations : Prop :=
  ∀ (op : AluOp) (src : Families.AluSource) (s : State), op = .and ∨ op = .xor ∨ op = .or →
    encode (Families.alu op src) = aluBytes op src ∧
    ∃ t, exec (Families.alu op src) s = .next t ∧
      (∀ k, k < 8 → t.regs.a.getLsbD k =
        match op with
        | .and => s.regs.a.getLsbD k && (sourceValue src s).getLsbD k
        | .xor => s.regs.a.getLsbD k != (sourceValue src s).getLsbD k
        | .or => s.regs.a.getLsbD k || (sourceValue src s).getLsbD k
        | .add => false | .adc => false | .sub => false | .sbc => false | .cp => false) ∧
      HasFlags (decide (t.regs.a = 0)) false (decide (op = .and)) false t ∧
      KeepsR8 [.a] s t ∧ t.regs.sp = s.regs.sp ∧ KeepsBus s t ∧ Advances (sourceLength src) (sourceCost src) s t

/-- 41 R251, R252, R253, R254: INC and DEC of a register and of the byte at HL (16 instructions); CY is unchanged. -/
def Obligations.ByteIncrementsAndDecrements : Prop :=
  ∀ (o : Operand8) (s : State),
    (encode (Families.inc o) = [byteOf (0x04 + 8 * operandField o)] ∧
     ∃ t, exec (Families.inc o) s = .next t ∧
      (let v := (readOperand o s).toNat
       WritesOperand o (byteOf ((v + 1) % 256)) s t ∧
       HasFlags (decide (v = 0xFF)) false (decide (v % 16 = 0x0F)) (getFlags s).cy t) ∧
      t.regs.sp = s.regs.sp ∧ Advances 1 (operandCost o 1 3) s t) ∧
    (encode (Families.dec o) = [byteOf (0x05 + 8 * operandField o)] ∧
     ∃ t, exec (Families.dec o) s = .next t ∧
      (let v := (readOperand o s).toNat
       WritesOperand o (byteOf ((v + 255) % 256)) s t ∧
       HasFlags (decide (v = 0x01)) true (decide (v % 16 = 0x00)) (getFlags s).cy t) ∧
      t.regs.sp = s.regs.sp ∧ Advances 1 (operandCost o 1 3) s t)

/-- 41 R255: DAA, for every A and all flags. -/
def Obligations.DecimalAdjust : Prop :=
  ∀ s : State,
    encode .daa = [0b00100111] ∧
    ∃ t, exec .daa s = .next t ∧
      (let a := (s.regs.a.toNat : Int)
       let g := getFlags s
       let high := if g.n then g.cy else g.cy || decide (a > 0x99)
       let low := if g.n then g.hf else g.hf || decide (a % 16 > 9)
       let adjust := (if high then 0x60 else 0) + (if low then 0x06 else 0)
       (t.regs.a.toNat : Int) = (if g.n then a - adjust else a + adjust) % 256 ∧
       HasFlags (decide (t.regs.a = 0)) g.n false high t) ∧
      KeepsR8 [.a] s t ∧ t.regs.sp = s.regs.sp ∧ KeepsBus s t ∧ Advances 1 1 s t

/-- 41 R256, R257, R258: CPL, SCF, CCF. -/
def Obligations.ComplementsAndCarry : Prop :=
  ∀ s : State,
    (encode .cpl = [0b00101111] ∧
     ∃ t, exec .cpl s = .next t ∧ t.regs.a.toNat = 255 - s.regs.a.toNat ∧
      HasFlags (getFlags s).z true true (getFlags s).cy t ∧ KeepsR8 [.a] s t ∧ t.regs.sp = s.regs.sp ∧ KeepsBus s t ∧
      Advances 1 1 s t) ∧
    (encode .scf = [0b00110111] ∧
     ∃ t, exec .scf s = .next t ∧ HasFlags (getFlags s).z false false true t ∧ KeepsR8 [] s t ∧ t.regs.sp = s.regs.sp ∧
      KeepsBus s t ∧ Advances 1 1 s t) ∧
    (encode .ccf = [0b00111111] ∧
     ∃ t, exec .ccf s = .next t ∧ HasFlags (getFlags s).z false false (!(getFlags s).cy) t ∧ KeepsR8 [] s t ∧
      t.regs.sp = s.regs.sp ∧ KeepsBus s t ∧ Advances 1 1 s t)

/-! ## 16-bit arithmetic (42_alu16.md) -/

/-- 42 R280, R281, R282: ADD HL,rr, INC rr, DEC rr (12 instructions). -/
def Obligations.PairArithmetic : Prop :=
  ∀ (p : R16) (s : State),
    (encode (Families.addHl p) = [byteOf (0x09 + 16 * pairField p)] ∧
     ∃ t, exec (Families.addHl p) s = .next t ∧
      (let a := (readR16 .hl s).toNat
       let b := (readR16 p s).toNat
       (readR16 .hl t).toNat = (a + b) % 65536 ∧
       HasFlags (getFlags s).z false (decide (a % 4096 + b % 4096 > 0x0FFF)) (decide (a + b > 0xFFFF)) t) ∧
      KeepsR8 [.h, .l] s t ∧ t.regs.sp = s.regs.sp ∧ KeepsBus s t ∧ Advances 1 2 s t) ∧
    (encode (Families.incPair p) = [byteOf (0x03 + 16 * pairField p)] ∧
     ∃ t, exec (Families.incPair p) s = .next t ∧ (readR16 p t).toNat = ((readR16 p s).toNat + 1) % 65536 ∧
      (∀ q, q ≠ p → readR16 q t = readR16 q s) ∧ t.regs.a = s.regs.a ∧ t.regs.f = s.regs.f ∧ KeepsBus s t ∧ Advances 1 2 s t) ∧
    (encode (Families.decPair p) = [byteOf (0x0B + 16 * pairField p)] ∧
     ∃ t, exec (Families.decPair p) s = .next t ∧ (readR16 p t).toNat = ((readR16 p s).toNat + 65535) % 65536 ∧
      (∀ q, q ≠ p → readR16 q t = readR16 q s) ∧ t.regs.a = s.regs.a ∧ t.regs.f = s.regs.f ∧ KeepsBus s t ∧ Advances 1 2 s t)

/-- 42 R283, R284, R285: ADD SP,e8 and LD HL,SP+e8, with the flags of the unsigned addition to SP's low byte. -/
def Obligations.StackPointerPlusDisplacement : Prop :=
  ∀ (n : Byte) (s : State),
    (encode (.addSpE8 n) = [0b11101000, n] ∧
     ∃ t, exec (.addSpE8 n) s = .next t ∧ (t.regs.sp.toNat : Int) = ((s.regs.sp.toNat : Int) + n.toInt) % 65536 ∧
      HasFlags false false (decide (s.regs.sp.toNat % 16 + n.toNat % 16 > 0x0F)) (decide (s.regs.sp.toNat % 256 + n.toNat > 0xFF)) t ∧
      KeepsR8 [] s t ∧ KeepsBus s t ∧ Advances 2 4 s t) ∧
    (encode (.ldHlSpE8 n) = [0b11111000, n] ∧
     ∃ t, exec (.ldHlSpE8 n) s = .next t ∧ ((readR16 .hl t).toNat : Int) = ((s.regs.sp.toNat : Int) + n.toInt) % 65536 ∧
      HasFlags false false (decide (s.regs.sp.toNat % 16 + n.toNat % 16 > 0x0F)) (decide (s.regs.sp.toNat % 256 + n.toNat > 0xFF)) t ∧
      KeepsR8 [.h, .l] s t ∧ t.regs.sp = s.regs.sp ∧ KeepsBus s t ∧ Advances 2 3 s t)

/-! ## Rotates, shifts and bits (43_rotate_shift_bit.md) -/

/-- 43 R301-R312: RLCA, RRCA, RLA, RRA, whose Z is always 0; and RLC, RRC, RL, RR, SLA, SRA, SWAP, SRL on a register or the byte at
HL (64 instructions), whose Z is from the result. -/
def Obligations.RotatesAndShifts : Prop :=
  (∀ (s : State) (i : Instr) (op : RotOp) (code : Byte),
     (i, op, code) ∈ [(Instr.rlca, RotOp.rlc, 0b00000111#8), (.rrca, .rrc, 0b00001111), (.rla, .rl, 0b00010111), (.rra, .rr, 0b00011111)] →
     encode i = [code] ∧
     ∃ t, exec i s = .next t ∧
       (let r := rotated op s.regs.a.toNat (bitNat (getFlags s).cy)
        t.regs.a.toNat = r.1 ∧ HasFlags false false false r.2 t) ∧
       KeepsR8 [.a] s t ∧ t.regs.sp = s.regs.sp ∧ KeepsBus s t ∧ Advances 1 1 s t) ∧
  (∀ (op : RotOp) (o : Operand8) (s : State),
     encode (Families.rotate op o) = [0xCB, byteOf (8 * rotField op + operandField o)] ∧
     ∃ t, exec (Families.rotate op o) s = .next t ∧
       (let r := rotated op (readOperand o s).toNat (bitNat (getFlags s).cy)
        WritesOperand o (byteOf r.1) s t ∧ HasFlags (decide (r.1 = 0)) false false r.2 t) ∧
       t.regs.sp = s.regs.sp ∧ Advances 2 (operandCost o 2 4) s t)

/-- 43 R313, R314, R315: BIT, RES and SET (192 instructions). BIT only reads; RES and SET leave the flags alone. -/
def Obligations.BitInstructions : Prop :=
  ∀ (b : Fin 8) (o : Operand8) (s : State),
    (encode (Families.bitTest b o) = [0xCB, byteOf (0x40 + 8 * b.val + operandField o)] ∧
     ∃ t, exec (Families.bitTest b o) s = .next t ∧ HasFlags (!(readOperand o s).getLsbD b.val) false true (getFlags s).cy t ∧
      KeepsR8 [] s t ∧ t.regs.sp = s.regs.sp ∧ KeepsBus s t ∧ Advances 2 (operandCost o 2 3) s t) ∧
    (encode (Families.bitReset b o) = [0xCB, byteOf (0x80 + 8 * b.val + operandField o)] ∧
     ∃ t w, exec (Families.bitReset b o) s = .next t ∧ WritesOperand o w s t ∧
      (∀ k : Fin 8, w.getLsbD k.val = (decide (k ≠ b) && (readOperand o s).getLsbD k.val)) ∧
      t.regs.sp = s.regs.sp ∧ t.regs.f = s.regs.f ∧ Advances 2 (operandCost o 2 4) s t) ∧
    (encode (Families.bitSet b o) = [0xCB, byteOf (0xC0 + 8 * b.val + operandField o)] ∧
     ∃ t w, exec (Families.bitSet b o) s = .next t ∧ WritesOperand o w s t ∧
      (∀ k : Fin 8, w.getLsbD k.val = (decide (k = b) || (readOperand o s).getLsbD k.val)) ∧
      t.regs.sp = s.regs.sp ∧ t.regs.f = s.regs.f ∧ Advances 2 (operandCost o 2 4) s t)

/-! ## Control transfer (44_control.md) -/

/-- 44 R331-R335: JP a16, JP cc,a16, JP HL; and JR e8, JR cc,e8, relative to the address after the two bytes, modulo 65536. -/
def Obligations.Jumps : Prop :=
  (∀ (a : Word) (s : State),
    encode (.jpA16 a) = [0b11000011, loByte a, hiByte a] ∧
    ∃ t, exec (.jpA16 a) s = .next t ∧ GoesTo a 4 s t ∧ KeepsRegs [] s t ∧ KeepsBus s t) ∧
  (∀ (cc : Cond) (a : Word) (s : State),
    encode (Families.jpIf cc a) = [byteOf (0xC2 + 8 * condField cc), loByte a, hiByte a] ∧
    ∃ t, exec (Families.jpIf cc a) s = .next t ∧ (condTrue cc s → GoesTo a 4 s t) ∧ (¬ condTrue cc s → Advances 3 3 s t) ∧
      KeepsRegs [] s t ∧ KeepsBus s t) ∧
  (∀ s : State,
    encode .jpHl = [0b11101001] ∧
    ∃ t, exec .jpHl s = .next t ∧ GoesTo (pairOf s.regs.h s.regs.l) 1 s t ∧ KeepsRegs [] s t ∧ KeepsBus s t) ∧
  (∀ (n : Byte) (s : State),
    encode (.jrE8 n) = [0b00011000, n] ∧
    ∃ t, exec (.jrE8 n) s = .next t ∧ (t.regs.pc.toNat : Int) = (((pcAfterFetch 2 s).toNat : Int) + n.toInt) % 65536 ∧
      GoesTo t.regs.pc 3 s t ∧ KeepsRegs [] s t ∧ KeepsBus s t) ∧
  (∀ (cc : Cond) (n : Byte) (s : State),
    encode (Families.jrIf cc n) = [byteOf (0x20 + 8 * condField cc), n] ∧
    ∃ t, exec (Families.jrIf cc n) s = .next t ∧
      (condTrue cc s →
        (t.regs.pc.toNat : Int) = (((pcAfterFetch 2 s).toNat : Int) + n.toInt) % 65536 ∧ GoesTo t.regs.pc 3 s t) ∧
      (¬ condTrue cc s → Advances 2 2 s t) ∧ KeepsRegs [] s t ∧ KeepsBus s t)

/-- 44 R336, R337, R341: CALL a16, CALL cc,a16, RST t. The address after the instruction is pushed; not taken, neither SP nor memory
changes. -/
def Obligations.Calls : Prop :=
  (∀ (a : Word) (s : State),
    encode (.callA16 a) = [0b11001101, loByte a, hiByte a] ∧
    ∃ t, exec (.callA16 a) s = .next t ∧ Pushes (pcAfterFetch 3 s) s t ∧ GoesTo a 6 s t ∧ KeepsR8 [] s t ∧
      t.regs.f = s.regs.f) ∧
  (∀ (cc : Cond) (a : Word) (s : State),
    encode (Families.callIf cc a) = [byteOf (0xC4 + 8 * condField cc), loByte a, hiByte a] ∧
    ∃ t, exec (Families.callIf cc a) s = .next t ∧ (condTrue cc s → Pushes (pcAfterFetch 3 s) s t ∧ GoesTo a 6 s t) ∧
      (¬ condTrue cc s → Advances 3 3 s t ∧ KeepsBus s t ∧ t.regs.sp = s.regs.sp) ∧ KeepsR8 [] s t ∧ t.regs.f = s.regs.f) ∧
  (∀ (y : Fin 8) (s : State),
    encode (Families.rst y) = [byteOf (0xC7 + 8 * y.val)] ∧
    ∃ t, exec (Families.rst y) s = .next t ∧ Pushes (pcAfterFetch 1 s) s t ∧ GoesTo (BitVec.ofNat 16 (8 * y.val)) 4 s t ∧
      KeepsR8 [] s t ∧ t.regs.f = s.regs.f)

/-- 44 R338, R339, R340: RET, RET cc, RETI. The low byte is popped from SP, the high byte from SP+1; RETI sets IME at once and drops
a pending EI. -/
def Obligations.Returns : Prop :=
  ∀ s : State,
    let target := pairOf (memRead (s.regs.sp + 1) s) (memRead s.regs.sp s)
    (encode .ret = [0b11001001] ∧
     ∃ t, exec .ret s = .next t ∧ GoesTo target 4 s t ∧ t.regs.sp = s.regs.sp + 2 ∧ KeepsR8 [] s t ∧ t.regs.f = s.regs.f ∧
      KeepsBus s t) ∧
    (∀ cc : Cond, encode (Families.retIf cc) = [byteOf (0xC0 + 8 * condField cc)] ∧
     ∃ t, exec (Families.retIf cc) s = .next t ∧ (condTrue cc s → GoesTo target 5 s t ∧ t.regs.sp = s.regs.sp + 2) ∧
      (¬ condTrue cc s → Advances 1 2 s t ∧ t.regs.sp = s.regs.sp) ∧ KeepsR8 [] s t ∧ t.regs.f = s.regs.f ∧ KeepsBus s t) ∧
    (encode .reti = [0b11011001] ∧
     ∃ t, exec .reti s = .next t ∧ t.regs.pc = target ∧ t.regs.sp = s.regs.sp + 2 ∧ t.ime = true ∧ t.imeDelay = 0 ∧
      t.halted = s.halted ∧ t.haltBug = false ∧ t.failure = s.failure ∧ t.cycles = 4 ∧ KeepsR8 [] s t ∧ t.regs.f = s.regs.f ∧
      KeepsBus s t)

/-! ## System instructions (45_system.md) -/

/-- 45 R370, R372, R373, R374: NOP, DI, EI, which starts the deferred enable only while IME is clear and none is pending, and HALT,
which with IME = 0 and an interrupt pending sets `halt_bug` and does not halt, and otherwise halts. -/
def Obligations.SystemInstructions : Prop :=
  (∀ s : State,
     (encode .nop = [0x00] ∧ ∃ t, exec .nop s = .next t ∧ Advances 1 1 s t ∧ KeepsRegs [] s t ∧ KeepsBus s t) ∧
     (encode .di = [0b11110011] ∧
      ∃ t, exec .di s = .next t ∧ t.ime = false ∧ t.imeDelay = 0 ∧ t.regs.pc = pcAfterFetch 1 s ∧ t.cycles = 1 ∧
       t.halted = s.halted ∧ t.haltBug = false ∧ t.failure = s.failure ∧ KeepsRegs [] s t ∧ KeepsBus s t) ∧
     (encode .ei = [0b11111011] ∧
      ∃ t, exec .ei s = .next t ∧ t.ime = s.ime ∧
       t.imeDelay = (if s.ime = false ∧ s.imeDelay = 0 then 2 else s.imeDelay) ∧ t.regs.pc = pcAfterFetch 1 s ∧ t.cycles = 1 ∧
       t.halted = s.halted ∧ t.haltBug = false ∧ t.failure = s.failure ∧ KeepsRegs [] s t ∧ KeepsBus s t)) ∧
  (∀ s : State,
     encode .halt = [0b01110110] ∧
     ∃ t, exec .halt s = .next t ∧
       (s.ime = false ∧ s.ie &&& s.iflag ≠ 0 → t.haltBug = true ∧ t.halted = s.halted) ∧
       (¬(s.ime = false ∧ s.ie &&& s.iflag ≠ 0) → t.halted = true ∧ t.haltBug = false) ∧
       t.ime = s.ime ∧ t.imeDelay = s.imeDelay ∧ t.failure = s.failure ∧ t.regs.pc = pcAfterFetch 1 s ∧ t.cycles = 1 ∧
       KeepsRegs [] s t ∧ KeepsBus s t)

/-- 45 R371, R376: STOP and the eleven illegal opcodes raise UnimplementedOpcode with the opcode's address, and the state is left as
it was but for the latched failure. That the failing step is a next state is the model's reading (log entry 6). -/
def Obligations.UndefinedOpcodesLatchTheFailure : Prop :=
  ∀ s : State,
    (∀ p ∈ Families.illegalOpcodes, encode p.1 = [p.2] ∧ exec p.1 s = .next { s with failure := some ⟨s.regs.pc, p.2⟩ }) ∧
    (∀ n : Byte, encode (.stop n) = [0x10, n] ∧ exec (.stop n) s = .next { s with failure := some ⟨s.regs.pc, 0x10⟩ })

/-- 45 R375: the prefix and its second byte are the extended-table instruction of that byte, for all 256 second bytes. The row
PREFIX_CB acts as that instruction, in the same next state. That the row has a term of its own is the model's choice (log entry 8). -/
def Obligations.PrefixRunsTheExtendedInstruction : Prop :=
  ∀ (op2 : Byte) (s : State),
    encode (.prefixCb op2) = [0xCB, op2] ∧
    ∃ t, exec (.prefixCb op2) s = .next t ∧ exec (extendedByFields op2) s = .next t

/-! ## The step (60_exceptions.md section 1 and 2) -/

/-- A step runs the decoded instruction: with no failure latched and the CPU not halted, the bytes that the fetches read decode to the
instruction that `exec` is given; then the end of the step, unless the instruction failed. That `exec` is given the state before the
fetch is the model's choice (log entry 17), and so is the third clause, that a failing step answers a next state (log entry 6). -/
def Obligations.StepRunsTheDecodedInstruction : Prop :=
  ∀ (s : State) (i : Instr) (rest : List Byte), s.failure = none → s.halted = false → decode (streamBytes s) = .ok (i, rest) →
    step s = completeStep (exec i s) ∧
    (∀ t, exec i s = .next t → t.failure = none → step s = .next (endOfStep t)) ∧
    (∀ t, exec i s = .next t → t.failure ≠ none → step s = .next t)

/-- 60 R404: the opcode fetch under the HALT bug reads the byte at PC without advancing it, and clears `halt_bug`. -/
def Obligations.HaltBugReadsTheByteTwice : Prop :=
  ∀ (s : State) (len : Nat), 1 ≤ len →
    (s.haltBug = true →
      fetchInstr s = decodeAt (memRead s.regs.pc s) (memRead s.regs.pc s) (memRead (s.regs.pc + 1) s) ∧
      pcAfterFetch len s = s.regs.pc + BitVec.ofNat 16 (len - 1)) ∧
    (s.haltBug = false →
      fetchInstr s = decodeAt (memRead s.regs.pc s) (memRead (s.regs.pc + 1) s) (memRead (s.regs.pc + 2) s) ∧
      pcAfterFetch len s = s.regs.pc + BitVec.ofNat 16 len) ∧
    (afterFetch len s).haltBug = false

/-- No bus access and no operand faults (20 R70, 60 R411): a machine without a latched failure always takes its next step. That the step
of one of the twelve undefined opcodes, which returns `Fail` (60 R410), answers a next state is the model's choice (log entry 6). -/
def Obligations.EveryStepAnswers : Prop :=
  ∀ s : State, s.failure = none → ∃ t, step s = .next t

/-- 60 R410: exactly the twelve bytes fail; the failing step leaves the state as it was but for the failure, which records the
opcode's address and the byte. That the failing step answers a next state is the model's choice (log entry 6); `hostStep` gives the
spec's result. -/
def Obligations.OnlyTwelveOpcodesFail : Prop :=
  ∀ s : State, s.failure = none → s.halted = false →
    (memRead s.regs.pc s ∈ undefinedBytes →
      step s = .next { s with failure := some ⟨s.regs.pc, memRead s.regs.pc s⟩ } ∧
      hostStep s = .next (.fail ⟨s.regs.pc, memRead s.regs.pc s⟩,
        { s with failure := some ⟨s.regs.pc, memRead s.regs.pc s⟩ })) ∧
    (memRead s.regs.pc s ∉ undefinedBytes → ∃ t, step s = .next t ∧ t.failure = none ∧ hostStep s = .next (.ok t.cycles, t))

/-- 60 R452: after a failure the step returns the same failure and changes nothing, as `hostStep` shows. That `step` itself answers a
fault there is the model's choice (log entry 6). -/
def Obligations.FailureStaysLatched : Prop :=
  ∀ (s : State) (f : UnimplementedOpcode), s.failure = some f →
    step s = .fault (.unimplementedOpcode f.pc f.opcode) ∧ hostStep s = .next (.fail f, s) ∧ hostFailingPc s = some f.pc

/-- 60 R402: a halted step executes nothing and costs 1 M-cycle; the timer advances by 4 clocks; a pending interrupt clears `halted`
whatever IME holds, and with IME set it is serviced in the same step. -/
def Obligations.HaltedStep : Prop :=
  ∀ s : State, s.failure = none → s.halted = true → s.imeDelay = 0 →
    let ran := timerRun 4 s.timer
    let flags := if ran.2 then s.iflag ||| 0b00100#5 else s.iflag
    (s.ie &&& flags = 0 → step s = .next { s with timer := ran.1, iflag := flags, cycles := 1 }) ∧
    (s.ie &&& flags ≠ 0 → s.ime = false →
      step s = .next { s with timer := ran.1, iflag := flags, halted := false, cycles := 1 }) ∧
    (s.ie &&& flags ≠ 0 → s.ime = true →
      step s = .next (service (lowestSetBit (s.ie &&& flags)) { s with timer := ran.1, iflag := flags, halted := false, cycles := 1 }))

/-! ## Interrupts (60_exceptions.md section 3) -/

/-- 60 R423, R424, R425: interrupt entry for source `k`, up to the 20 clocks of timer advance, and all of it. The return address is
PC, or the HALT itself while `halt_bug` is set. -/
def Obligations.InterruptEntry : Prop :=
  ∀ (k : Fin 5) (s : State),
    let back := if s.haltBug then s.regs.pc - 1 else s.regs.pc
    let stored := memWrite (s.regs.sp - 2) (loByte back) (memWrite (s.regs.sp - 1) (hiByte back) s)
    let t := service k.val s
    let ran := timerRun 20 stored.timer
    let cleared := stored.iflag &&& ~~~(1#5 <<< k.val)
    t.ime = false ∧ t.imeDelay = 0 ∧ t.haltBug = false ∧ t.halted = s.halted ∧ t.failure = s.failure ∧
    t.regs = { s.regs with sp := s.regs.sp - 2, pc := BitVec.ofNat 16 (0x0040 + 8 * k.val) } ∧
    t.mem = stored.mem ∧ t.mbc = stored.mbc ∧ t.ie = stored.ie ∧ t.cart = s.cart ∧
    t.iflag = (if ran.2 then cleared ||| 0b00100#5 else cleared) ∧ t.timer = ran.1 ∧ t.cycles = s.cycles + 5

/-- 60 R400, R421, R422, R423: every service, halted before or not. Where the check at the end of a step finds an interrupt pending and
IME set, or set by the countdown just then, the source serviced is pending and no source with a lower vector is; it is all that the
step does after its timer advance and countdown. The second clause: this end is that of every step that does not fail. -/
def Obligations.ArbiterPicksTheLowestVector : Prop :=
  (∀ t : State, (t.ime = true ∨ t.imeDelay = 1) → t.ie &&& flagsAfterClocks t ≠ 0 →
    ∃ k : Fin 5,
      (t.ie &&& flagsAfterClocks t).getLsbD k.val = true ∧ (∀ j, j < k.val → (t.ie &&& flagsAfterClocks t).getLsbD j = false) ∧
      endOfStep t = service k.val { beforeCheck t with halted := false } ∧
      (endOfStep t).regs.pc = BitVec.ofNat 16 (0x0040 + 8 * k.val)) ∧
  (∀ s t : State, s.failure = none →
    (s.halted = true ∧ t = { s with cycles := 1 }) ∨ (s.halted = false ∧ exec (fetchInstr s) s = .next t ∧ t.failure = none) →
    step s = .next (endOfStep t))

/-- 45 R373, R374, 70 R489: the step of a DI takes no interrupt and leaves none enabled or about to be; the step of an EI with IME
clear and nothing pending takes no interrupt, and leaves the enable one step away. -/
def Obligations.DiAndEiStepsTakeNoInterrupt : Prop :=
  ∀ s : State, s.failure = none → s.halted = false →
    (fetchInstr s = .di → ∃ t, step s = .next t ∧ t.ime = false ∧ t.imeDelay = 0 ∧
      t.regs = { s.regs with pc := pcAfterFetch 1 s } ∧ t.mem = s.mem ∧ t.cycles = 1) ∧
    (fetchInstr s = .ei → s.ime = false → s.imeDelay = 0 → ∃ t, step s = .next t ∧ t.ime = false ∧ t.imeDelay = 1 ∧
      t.regs = { s.regs with pc := pcAfterFetch 1 s } ∧ t.mem = s.mem ∧ t.cycles = 1)

/-- 60 R400, R402, R403, R421, R437: the end of a step, from every state `t` that its instruction left. With nothing pending, only the
timer's clocks, its request and the countdown happen; with an interrupt pending and IME still clear, the CPU is woken as well and
nothing is serviced; with IME set, or set by the countdown just then, one of the pending sources is serviced at once
(`ArbiterPicksTheLowestVector` says which). A countdown at 1 sets IME before the check; a longer one only counts down. -/
def Obligations.DeferredEnableTakesEffect : Prop :=
  ∀ t : State,
    let pending := t.ie &&& flagsAfterClocks t
    (pending = 0 → endOfStep t = beforeCheck t) ∧
    (pending ≠ 0 → t.ime = false → t.imeDelay ≠ 1 → endOfStep t = { beforeCheck t with halted := false }) ∧
    (pending ≠ 0 → t.ime = true ∨ t.imeDelay = 1 →
      ∃ k : Fin 5, pending.getLsbD k.val = true ∧ endOfStep t = service k.val { beforeCheck t with halted := false } ∧
        (endOfStep t).ime = false ∧ (endOfStep t).imeDelay = 0 ∧ (endOfStep t).halted = false ∧
        (endOfStep t).cycles = t.cycles + 5) ∧
    (t.imeDelay = 1 → (beforeCheck t).ime = true ∧ (beforeCheck t).imeDelay = 0) ∧
    (t.imeDelay ≠ 1 → (beforeCheck t).ime = t.ime ∧ (beforeCheck t).imeDelay = t.imeDelay - 1)

/-- 10 R38, 45 R377: among the instructions only DI and RETI change IME and only DI, EI and RETI the deferral; only HALT halts the CPU
or raises the HALT bug; and none of them clears a failure. -/
def Obligations.OnlyTheseWriteInterruptControl : Prop :=
  ∀ (i : Instr) (s t : State), exec i s = .next t →
    (t.ime ≠ s.ime → i = .di ∨ i = .reti) ∧
    (t.imeDelay ≠ s.imeDelay → i = .di ∨ i = .ei ∨ i = .reti) ∧
    (t.halted ≠ s.halted → i = .halt) ∧
    (s.haltBug = false → t.haltBug = true → i = .halt) ∧
    (s.failure ≠ none → t.failure ≠ none)

/-! ## The timer (60_exceptions.md section 5) -/

/-- 60 R431: the divider counts every clock, modulo 65536, whatever TAC holds, and DIV shows its upper byte. -/
def Obligations.DividerCountsEveryClock : Prop :=
  (∀ (n : Nat) (t : Timer), (timerRun n t).1.divCounter = t.divCounter + BitVec.ofNat 16 n) ∧
  (∀ s : State, memRead 0xFF04 s = hiByte s.timer.divCounter)

/-- 60 R432: with TAC enabled and steady, TIMA increments once per period, where the divider becomes 0 modulo the period; with TAC
disabled it does not count. Stated for runs without an overflow. -/
def Obligations.TimaCountsOncePerPeriod : Prop :=
  ∀ (n : Nat) (t : Timer), t.timaReload = 0 →
    let falls := (t.divCounter.toNat % timaPeriod t.tac + n) / timaPeriod t.tac
    (t.tac.getLsbD 2 = true → t.tima.toNat + falls ≤ 0xFF →
      timerRun n t = ({ t with divCounter := t.divCounter + BitVec.ofNat 16 n, tima := byteOf (t.tima.toNat + falls) }, false)) ∧
    (t.tac.getLsbD 2 = false → timerRun n t = ({ t with divCounter := t.divCounter + BitVec.ofNat 16 n }, false))

/-- 60 R434, R436: at the clock where the signal falls with TIMA at 0xFF the interrupt is requested, TIMA reads 0x00 for four clocks,
and the fourth clock after the overflow loads TMA. -/
def Obligations.TimaOverflowReloadsAfterFourClocks : Prop :=
  ∀ t : Timer, t.timaReload = 0 → t.tima = 0xFF → t.tac.getLsbD 2 = true →
    (t.divCounter.toNat + 1) % timaPeriod t.tac = 0 →
    timerRun 1 t = ({ t with divCounter := t.divCounter + 1, tima := 0x00, timaReload := 4 }, true) ∧
    (∀ n, n ≤ 3 → (timerRun (1 + n) t).1.tima = 0x00) ∧
    timerRun 5 t = ({ t with divCounter := t.divCounter + 5, tima := t.tma, timaReload := 0 }, true)

/-- 60 R433, R435, R436: a write of DIV clears the divider and a write of TAC sets TAC, each with one more TIMA increment where the
signal falls; a write of TIMA cancels a pending reload; a write of TMA changes TMA alone. -/
def Obligations.TimerRegisterWrites : Prop :=
  ∀ (v : Byte) (s : State),
    (let t := memWrite 0xFF04 v s
     t.timer.divCounter = 0 ∧ t.timer.tac = s.timer.tac ∧ t.timer.tma = s.timer.tma ∧ t.mem = s.mem ∧ t.ie = s.ie ∧
     (if timerSig s.timer.divCounter s.timer.tac = true then afterFall s.timer t.timer s.iflag t.iflag
      else t.timer = { s.timer with divCounter := 0 } ∧ t.iflag = s.iflag)) ∧
    (let t := memWrite 0xFF07 v s
     t.timer.tac.toNat = v.toNat % 8 ∧ t.timer.divCounter = s.timer.divCounter ∧ t.timer.tma = s.timer.tma ∧ t.mem = s.mem ∧
     t.ie = s.ie ∧
     (if timerSig s.timer.divCounter s.timer.tac = true ∧ timerSig s.timer.divCounter t.timer.tac = false then
        afterFall s.timer t.timer s.iflag t.iflag
      else t.timer = { s.timer with tac := t.timer.tac } ∧ t.iflag = s.iflag)) ∧
    memWrite 0xFF05 v s = { s with timer := { s.timer with tima := v, timaReload := 0 } } ∧
    memWrite 0xFF06 v s = { s with timer := { s.timer with tma := v } }

/-! ## The bus (20_memory.md) -/

/-- A store changes what an address reads as only where it reaches (20 R73, R90): its own address, the other names of its cell, the
banked windows for a control write, TIMA and IF for a write of DIV or TAC. -/
def Obligations.StoresReachOnlyTheirCells : Prop :=
  ∀ (a x : Word) (v : Byte) (s : State), storeReaches s a x = false → memRead x (memWrite a v s) = memRead x s

/-- 20 R71, R76-R79, R82-R87, R92, with 10 R40, R41, R49 and 60 R433: what an address reads after `v` is written to it, by the ranges of
the address map; a write to ROM changes only the bank registers (`ControlWritesSetTheBankRegisters` says how), a write to external
RAM only its array (`ExternalRamAccess` says how). -/
def Obligations.ReadBackByRegion : Prop :=
  ∀ (a : Word) (v : Byte) (s : State),
    let t := memWrite a v s
    if a.toNat ≤ 0x7FFF then { t with mbc := s.mbc } = s
    else if a.toNat ≤ 0x9FFF then memRead a t = v
    else if a.toNat ≤ 0xBFFF then { t with mem := { t.mem with extRam := s.mem.extRam } } = s
    else if a.toNat ≤ 0xDFFF then memRead a t = v
    else if a.toNat ≤ 0xFDFF then memRead a t = v
    else if a.toNat ≤ 0xFE9F then memRead a t = v
    else if a.toNat ≤ 0xFEFF then memRead a s = 0xFF ∧ t = s
    else if a.toNat ≤ 0xFF7F then
      if a = 0xFF04 then memRead a t = 0x00
      else if a = 0xFF07 then memRead a t = 0xF8 ||| (v &&& 0x07)
      else if a = 0xFF0F then memRead a t = 0xE0 ||| (v &&& 0x1F)
      else memRead a t = v
    else if a.toNat ≤ 0xFFFE then memRead a t = v
    else memRead a t = 0xE0 ||| (v &&& 0x1F)

/-- 20 R82: an echo address reads and writes the same cell as the address 0x2000 below it. -/
def Obligations.EchoIsTheSameCell : Prop :=
  ∀ (a : Word) (v : Byte) (s : State), 0xE000 ≤ a.toNat → a.toNat ≤ 0xFDFF →
    memRead a s = memRead (a - 0x2000) s ∧ memWrite a v s = memWrite (a - 0x2000) v s

/-! ## The cartridge (20_memory.md section 5) -/

/-- 20 R76, R113, R114, R117, R120, R123: a store to the ROM range changes only the bank registers, as the variant decodes it. -/
def Obligations.ControlWritesSetTheBankRegisters : Prop :=
  ∀ (a : Word) (v : Byte) (s : State), a.toNat ≤ 0x7FFF →
    let m := s.mbc
    let t := memWrite a v s
    let on := decide (v.toNat % 16 = 0x0A)
    t = { s with mbc := t.mbc } ∧
    match s.cart.kind with
    | .romOnly => t.mbc = m
    | .mbc1 =>
      if a.toNat ≤ 0x1FFF then t.mbc = { m with ramEnable := on }
      else if a.toNat ≤ 0x3FFF then
        t.mbc = { m with romBank := BitVec.ofNat 9 (if v.toNat % 32 = 0 then 1 else v.toNat % 32) }
      else if a.toNat ≤ 0x5FFF then t.mbc = { m with ramBank := BitVec.ofNat 4 (v.toNat % 4) }
      else t.mbc = { m with mode := decide (v.toNat % 2 = 1) }
    | .mbc2 =>
      if a.toNat ≤ 0x3FFF then
        if a.toNat / 256 % 2 = 0 then t.mbc = { m with ramEnable := on }
        else t.mbc = { m with romBank := BitVec.ofNat 9 (if v.toNat % 16 = 0 then 1 else v.toNat % 16) }
      else t.mbc = m
    | .mbc3 =>
      if a.toNat ≤ 0x1FFF then t.mbc = { m with ramEnable := on }
      else if a.toNat ≤ 0x3FFF then
        t.mbc = { m with romBank := BitVec.ofNat 9 (if v.toNat % 128 = 0 then 1 else v.toNat % 128) }
      else if a.toNat ≤ 0x5FFF then t.mbc = { m with ramBank := BitVec.ofNat 4 (v.toNat % 16) }
      else t.mbc = m
    | .mbc5 =>
      if a.toNat ≤ 0x1FFF then t.mbc = { m with ramEnable := on }
      else if a.toNat ≤ 0x2FFF then t.mbc = { m with romBank := BitVec.ofNat 9 (m.romBank.toNat / 256 * 256 + v.toNat) }
      else if a.toNat ≤ 0x3FFF then
        t.mbc = { m with romBank := BitVec.ofNat 9 (v.toNat % 2 * 256 + m.romBank.toNat % 256) }
      else if a.toNat ≤ 0x5FFF then t.mbc = { m with ramBank := BitVec.ofNat 4 (v.toNat % 16) }
      else t.mbc = m

/-- 20 R74, R75, R111, R115, R118, R121, R124: both ROM windows show the image's bank, taken modulo the banks present, and the fill
value past the image's end. That MBC1's BANK2 counts in images of fewer than 32 banks too, where their number does not divide 32, is
the model's reading of R115 (log entry 19). -/
def Obligations.RomWindowsShowTheImage : Prop :=
  ∀ (a : Word) (s : State),
    (a.toNat ≤ 0x3FFF → memRead a s = imageAt s (fixedBank s) a.toNat) ∧
    (0x4000 ≤ a.toNat → a.toNat ≤ 0x7FFF → memRead a s = imageAt s (switchableBank s) (a.toNat - 0x4000))

/-- 20 R78, R113, R116, R119, R122, R125, R126: while RAM is disabled the window of a controller with an enable register reads 0xFF and
discards writes, and so does a window without RAM (MBC2 always has its cells; MBC3's clock registers are
`ClockRegistersReadTheDraw`); while it is enabled and present, an address shows the cell that the variant's bank and 20 R112 give, and
MBC2's address the cell of its low 9 bits, with four bits stored and the upper nibble read as 1s. -/
def Obligations.ExternalRamAccess : Prop :=
  ∀ (a : Word) (v : Byte) (s : State), 0xA000 ≤ a.toNat → a.toNat ≤ 0xBFFF →
    (s.cart.kind ≠ .romOnly → s.mbc.ramEnable = false → memRead a s = 0xFF ∧ memWrite a v s = s) ∧
    (s.cart.kind = .romOnly → s.cart.ramSize = 0 → memRead a s = 0xFF ∧ memWrite a v s = s) ∧
    (s.cart.kind = .mbc1 ∨ s.cart.kind = .mbc5 → s.mbc.ramEnable = true → s.cart.ramSize = 0 →
      memRead a s = 0xFF ∧ memWrite a v s = s) ∧
    (s.cart.kind = .mbc3 → s.mbc.ramEnable = true → s.mbc.ramBank.toNat ≤ 0x07 → s.cart.ramSize = 0 →
      memRead a s = 0xFF ∧ memWrite a v s = s) ∧
    (s.cart.kind = .romOnly → 0 < s.cart.ramSize → showsRamCell a v (ramCellAt s a) s) ∧
    (s.cart.kind = .mbc1 ∨ s.cart.kind = .mbc5 → s.mbc.ramEnable = true → 0 < s.cart.ramSize →
      showsRamCell a v (ramCellAt s a) s) ∧
    (s.cart.kind = .mbc2 → s.mbc.ramEnable = true →
      memRead a s = 0xF0 ||| cellsGet s.mem.extRam (a.toNat % 512) ∧
      memWrite a v s = { s with mem := { s.mem with extRam := cellsSet s.mem.extRam (a.toNat % 512) (v &&& 0x0F) } } ∧
      memRead a (memWrite a v s) = 0xF0 ||| v ∧
      ∀ x : Word, 0xA000 ≤ x.toNat → x.toNat ≤ 0xBFFF → x.toNat % 512 = a.toNat % 512 → memRead x s = memRead a s) ∧
    (s.cart.kind = .mbc3 → s.mbc.ramEnable = true → s.mbc.ramBank.toNat ≤ 0x07 → 0 < s.cart.ramSize →
      showsRamCell a v (ramCellAt s a) s)

/-- 20 R122: an enabled MBC3 window that selects a clock register reads the draw RTC_READ, whatever it is, and discards writes;
selections 0x0D to 0x0F read 0xFF and discard writes. -/
def Obligations.ClockRegistersReadTheDraw : Prop :=
  ∀ (a : Word) (v : Byte) (s : State), 0xA000 ≤ a.toNat → a.toNat ≤ 0xBFFF → s.cart.kind = .mbc3 → s.mbc.ramEnable = true →
    (0x08 ≤ s.mbc.ramBank.toNat → s.mbc.ramBank.toNat ≤ 0x0C → memRead a s = s.cart.rtcRead ∧ memWrite a v s = s) ∧
    (0x0D ≤ s.mbc.ramBank.toNat → memRead a s = 0xFF ∧ memWrite a v s = s)

/-! ## Load and reset (70_reset_and_hazards.md) -/

/-- 70 R476, R477, R478, with the tables of 20 R110 and R112: the first failing check is reported, and nothing else fails. That a
RAM-size code outside the table is refused where the type has no external RAM too is 92 D24 and 93 T15, and how 20 R112 is read
beside them (log entry 18). -/
def Obligations.LoadChecksInOrder : Prop :=
  ∀ (image : List Byte) (d : Draws),
    let sumOk := checksumOf image = (image.getD 0x014D 0).toNat
    let supported := ∃ k size, selects image k size
    (load image d = .error .tooShort ↔ image.length < 0x0150) ∧
    (load image d = .error .checksumMismatch ↔ 0x0150 ≤ image.length ∧ ¬sumOk) ∧
    (load image d = .error .unsupportedCartridge ↔ 0x0150 ≤ image.length ∧ sumOk ∧ ¬supported) ∧
    ((∃ s, load image d = .ok s) ↔ 0x0150 ≤ image.length ∧ sumOk ∧ supported)

/-- 70 R470, R472, R473, R475, R476, 20 R110, R112 and 10 R56: a load creates the reset state, for every draw, with the header's fields
and the variant and RAM size that the header selects; that the draws are arguments of the load, in this form, is the model's choice
(log entries 2, 3, 4), and that a code outside the table is refused without external RAM too is a reading (log entry 18). The image is
what the first window shows; and with canonical draws the memory is canonical. -/
def Obligations.LoadCreatesTheResetState : Prop :=
  ∀ (image : List Byte) (d : Draws) (s : State), load image d = .ok s →
    s.regs = ⟨0x01, 0xB0, 0x00, 0x13, 0x00, 0xD8, 0x01, 0x4D, 0xFFFE, 0x0100⟩ ∧
    s.ime = false ∧ s.imeDelay = 0 ∧ s.ie = 0x00 ∧ s.iflag = 0x01 ∧ s.halted = false ∧ s.haltBug = false ∧ s.failure = none ∧
    s.timer = ⟨d.divInit, 0x00, 0x00, 0, 0⟩ ∧ s.mbc = ⟨1, 0, false, false⟩ ∧ s.cart.rtcRead = d.rtcRead ∧
    s.cart.romLen = image.length ∧ selects image s.cart.kind s.cart.ramSize ∧
    s.cart.header.title = ((image.drop 0x0134).take 16).takeWhile (fun v => v != 0x00) ∧
    s.cart.header.cartridgeType = image.getD 0x0147 0 ∧ s.cart.header.romSizeCode = image.getD 0x0148 0 ∧
    s.cart.header.ramSizeCode = image.getD 0x0149 0 ∧ s.cart.header.checksum = image.getD 0x014D 0 ∧
    s.mem.vram = d.vram ∧ s.mem.extRam = d.extRam ∧ s.mem.wram = d.wram ∧ s.mem.oam = d.oam ∧ s.mem.io = d.io ∧
    s.mem.hram = d.hram ∧
    (∀ p, p < 0x4000 → p < image.length → memRead (BitVec.ofNat 16 p) s = image.getD p 0) ∧
    (drawsCanonical d s.cart.ramSize → MemoryCanonical s)

/-- 10 R56: the registers and the interrupt, timer and bank state of `State.reset`. -/
def Obligations.ResetValues : Prop :=
  State.reset.regs = ⟨0x01, 0xB0, 0x00, 0x13, 0x00, 0xD8, 0x01, 0x4D, 0xFFFE, 0x0100⟩ ∧
  State.reset.ime = false ∧ State.reset.imeDelay = 0 ∧ State.reset.ie = 0x00 ∧ State.reset.iflag = 0x01 ∧
  State.reset.halted = false ∧ State.reset.haltBug = false ∧ State.reset.failure = none ∧
  State.reset.timer.tima = 0x00 ∧ State.reset.timer.tma = 0x00 ∧ State.reset.timer.tac = 0 ∧ State.reset.timer.timaReload = 0 ∧
  State.reset.mbc = ⟨1, 0, false, false⟩

/-! ## The host's operations (60_exceptions.md section 6) -/

/-- 60 R453, R455, R456: a request sets one bit of IF and nothing else, and is refused outside 0 to 4; `restore` writes the register
file and nothing else, with F's low nibble 0; `snapshot` is the register file with F's low nibble 0, and `restore` gives back what it
took; pending ignores IME. -/
def Obligations.HostOperations : Prop :=
  ∀ s : State,
    (∀ i : Nat, i ≤ 4 → hostRequestInterrupt i s = .next { s with iflag := s.iflag ||| (1#5 <<< i) }) ∧
    (∀ i : Nat, 4 < i → hostRequestInterrupt i s = .refused (.noSuchInterruptSource i)) ∧
    (∀ r : Regs, hostRestore r s = { s with regs := { r with f := r.f &&& 0xF0 } }) ∧
    hostSnapshot s = { s.regs with f := s.regs.f &&& 0xF0 } ∧
    hostSnapshot (hostRestore (hostSnapshot s) s) = hostSnapshot s ∧
    (hostInterruptPending s = true ↔ ∃ k : Fin 5, s.ie.getLsbD k.val = true ∧ s.iflag.getLsbD k.val = true)

/-! ## Invariants -/

/-- 10 R34, R39, R50: every step keeps F's low nibble zero and the two counters in range. -/
def Obligations.StepKeepsFlagNibbleAndCounters : Prop :=
  ∀ s t : State, FlagNibbleZero s → CountersInRange s → step s = .next t → FlagNibbleZero t ∧ CountersInRange t

/-- Every step keeps the interrupt control consistent: no enable pending while IME is set, no HALT bug while halted or while IME is
set (92 D6, 60 R425). -/
def Obligations.StepKeepsInterruptControl : Prop :=
  ∀ s t : State, InterruptControlConsistent s → step s = .next t → InterruptControlConsistent t

/-- Every step keeps every memory array canonical within the size 10 R51 gives it. The canonical form is the model's (log entry 2). -/
def Obligations.StepKeepsMemoryCanonical : Prop :=
  ∀ s t : State, MemoryCanonical s → step s = .next t → MemoryCanonical t

/-- Every step keeps the bank registers at values their variant's registers can hold (10 R52; 20 R114, R117, R120). -/
def Obligations.StepKeepsBankRegisters : Prop :=
  ∀ s t : State, BankRegistersInRange s → step s = .next t → BankRegistersInRange t

/-- 20 R76, 10 R53: no step changes the ROM image or anything else that load fixed. -/
def Obligations.StepNeverChangesTheCartridge : Prop :=
  ∀ s t : State, step s = .next t → t.mem.rom = s.mem.rom ∧ t.cart = s.cart

/-- The invariants hold in `State.reset`. The clauses about memory and the bank registers rest on the model's choice of an empty
cartridge slot (log entry 1) and of memory with nothing listed (log entry 2). -/
def Obligations.ResetMeetsTheInvariants : Prop :=
  FlagNibbleZero State.reset ∧ CountersInRange State.reset ∧ InterruptControlConsistent State.reset ∧
  MemoryCanonical State.reset ∧ BankRegistersInRange State.reset
end

