-- ==== Sys2Proof/Laws/Cells.lean ====
section
/-!
SUPPORT. The laws of one memory array: a read after a write, for every list, and that writing keeps the canonical form.
-/

namespace Sys2Proof.Machine

open Sys2Proof

theorem cellsGet_erase_self (m : Cells) (a : Nat) : cellsGet (cellsErase m a) a = Config.unlistedByte := by
  induction m with
  | nil => rfl
  | cons x r ih =>
    unfold cellsErase at ih ⊢
    by_cases h : x.1 = a
    · simp [h, ih]
    · simp [h, cellsGet, ih]

theorem cellsGet_erase_ne (m : Cells) {a x : Nat} (h : x ≠ a) : cellsGet (cellsErase m a) x = cellsGet m x := by
  induction m with
  | nil => rfl
  | cons y r ih =>
    unfold cellsErase at ih ⊢
    by_cases hy : y.1 = a
    · have : y.1 ≠ x := by omega
      simp only [List.filter_cons, hy, bne_self_eq_false, Bool.false_eq_true, if_false, ih]
      simp [cellsGet, this]
    · simp [hy, cellsGet, ih]

theorem cellsErase_not_mem (m : Cells) (a : Nat) : ∀ x ∈ cellsErase m a, x.1 ≠ a := by
  simp [cellsErase]

theorem cellsGet_insert_self (m : Cells) (a : Nat) (v : Byte) (h : ∀ x ∈ m, x.1 ≠ a) : cellsGet (cellsInsert m a v) a = v := by
  induction m with
  | nil => simp [cellsInsert, cellsGet]
  | cons x r ih =>
    rw [cellsInsert]
    split
    · simp [cellsGet]
    · rw [cellsGet, if_neg (h x (by simp)), ih (fun y hy => h y (by simp [hy]))]

theorem cellsGet_insert_ne (m : Cells) {a x : Nat} (v : Byte) (h : x ≠ a) : cellsGet (cellsInsert m a v) x = cellsGet m x := by
  induction m with
  | nil => simp [cellsInsert, cellsGet, Ne.symm h]
  | cons y r ih =>
    rw [cellsInsert]
    split
    · rw [cellsGet, if_neg (Ne.symm h)]
    · rw [cellsGet, cellsGet, ih]

/-- A read after a write to the same address gives the byte written. -/
@[simp] theorem cellsGet_set_self (m : Cells) (a : Nat) (v : Byte) : cellsGet (cellsSet m a v) a = v := by
  unfold cellsSet
  split
  · next h => rw [cellsGet_erase_self, h]
  · exact cellsGet_insert_self _ _ _ (cellsErase_not_mem m a)

/-- A write leaves every other address alone. -/
theorem cellsGet_set_ne (m : Cells) {a x : Nat} (v : Byte) (h : x ≠ a) : cellsGet (cellsSet m a v) x = cellsGet m x := by
  unfold cellsSet
  split
  · exact cellsGet_erase_ne m h
  · rw [cellsGet_insert_ne _ _ h, cellsGet_erase_ne m h]

theorem cellsErase_wf {lo hi : Nat} {m : Cells} (a : Nat) (h : Cells.wf lo hi m) : Cells.wf lo hi (cellsErase m a) :=
  ⟨h.1.filter _, fun x hx => h.2 x (List.mem_of_mem_filter hx)⟩

theorem mem_cellsInsert {m : Cells} {a : Nat} {v : Byte} {x : Host.Cell} : x ∈ cellsInsert m a v ↔ x = (a, v) ∨ x ∈ m := by
  induction m with
  | nil => simp [cellsInsert]
  | cons y r ih =>
    rw [cellsInsert]
    split
    · simp
    · simp only [List.mem_cons, ih]
      tauto

theorem cellsInsert_sorted {m : Cells} {a : Nat} {v : Byte} (hm : m.Pairwise (fun x y => x.1 < y.1)) (ha : ∀ x ∈ m, x.1 ≠ a) :
    (cellsInsert m a v).Pairwise (fun x y => x.1 < y.1) := by
  induction m with
  | nil => simp [cellsInsert]
  | cons y r ih =>
    rw [List.pairwise_cons] at hm
    rw [cellsInsert]
    split
    · next h =>
      refine List.pairwise_cons.2 ⟨fun x hx => ?_, List.pairwise_cons.2 hm⟩
      rcases List.mem_cons.1 hx with rfl | hx
      · exact h
      · exact Nat.lt_trans h (hm.1 x hx)
    · next h =>
      have hy := ha y (by simp)
      refine List.pairwise_cons.2 ⟨fun x hx => ?_, ih hm.2 (fun x hx => ha x (by simp [hx]))⟩
      rcases mem_cellsInsert.1 hx with rfl | hx
      · show y.1 < a
        omega
      · exact hm.1 x hx

/-- A write within the array's bounds keeps the canonical form. -/
theorem cellsSet_wf {lo hi : Nat} {m : Cells} {a : Nat} (v : Byte) (h : Cells.wf lo hi m) (hl : lo ≤ a) (hh : a < hi) :
    Cells.wf lo hi (cellsSet m a v) := by
  unfold cellsSet
  have he := cellsErase_wf a h
  split
  · exact he
  · next hv =>
    refine ⟨cellsInsert_sorted he.1 (cellsErase_not_mem m a), fun x hx => ?_⟩
    rcases mem_cellsInsert.1 hx with rfl | hx
    · exact ⟨hl, hh, hv⟩
    · exact he.2 x hx

/-- A write at an address of property `p` adds no address without it. -/
theorem cellsSet_forall {p : Nat → Prop} {m : Cells} {a : Nat} (v : Byte) (h : ∀ x ∈ m, p x.1) (ha : p a) :
    ∀ x ∈ cellsSet m a v, p x.1 := by
  unfold cellsSet
  intro x hx
  split at hx
  · exact h x (List.mem_of_mem_filter hx)
  · rcases mem_cellsInsert.1 hx with rfl | hx
    · exact ha
    · exact h x (List.mem_of_mem_filter hx)

theorem cellsOfBytes_wf (bs : List Byte) (a : Nat) : Cells.wf a (a + bs.length) (cellsOfBytes a bs) := by
  induction bs generalizing a with
  | nil => exact ⟨List.Pairwise.nil, by simp [cellsOfBytes]⟩
  | cons v r ih =>
    obtain ⟨hs, hb⟩ := ih (a + 1)
    rw [cellsOfBytes]
    simp only [List.length_cons]
    split
    · exact ⟨hs, fun x hx => ⟨by have := (hb x hx).1; omega, by have := (hb x hx).2.1; omega, (hb x hx).2.2⟩⟩
    · next hv =>
      refine ⟨List.pairwise_cons.2 ⟨fun x hx => ?_, hs⟩, fun x hx => ?_⟩
      · have := (hb x hx).1
        show a < x.1
        omega
      · rcases List.mem_cons.1 hx with rfl | hx
        · exact ⟨Nat.le_refl a, by show a < _; omega, hv⟩
        · exact ⟨by have := (hb x hx).1; omega, by have := (hb x hx).2.1; omega, (hb x hx).2.2⟩

theorem cellsGet_low {m : Cells} {lo hi p : Nat} (h : Cells.wf lo hi m) (hp : p < lo) : cellsGet m p = Config.unlistedByte := by
  induction m with
  | nil => rfl
  | cons x r ih =>
    have hx := (h.2 x (by simp)).1
    rw [cellsGet, if_neg (by omega)]
    exact ih ⟨(List.pairwise_cons.1 h.1).2, fun y hy => h.2 y (by simp [hy])⟩

/-- The array of an image holds the image's bytes. -/
theorem cellsGet_ofBytes (bs : List Byte) (a p : Nat) (hp : p < bs.length) : cellsGet (cellsOfBytes a bs) (a + p) = bs.getD p 0 := by
  induction bs generalizing a p with
  | nil => simp at hp
  | cons v r ih =>
    rw [cellsOfBytes]
    cases p with
    | zero =>
      split
      · next hv =>
        rw [cellsGet_low (cellsOfBytes_wf r (a + 1)) (by omega)]
        simp [hv]
      · simp [cellsGet]
    | succ q =>
      have hq : q < r.length := by simpa using hp
      have e : a + (q + 1) = (a + 1) + q := by omega
      split
      · rw [e, ih (a + 1) q hq]
        rfl
      · rw [cellsGet, if_neg (by show a ≠ _; omega), e, ih (a + 1) q hq]
        rfl

end Sys2Proof.Machine
end

