-- ==== Sys2Proof/Laws/State.lean ====
section
/-!
SUPPORT. One lemma per field and named update of the state: what the field is after the update. No proof needs to unfold a record
update.
-/

namespace Sys2Proof.Machine

open Sys2Proof

@[simp] theorem setPc_a (v : Word) (s : State) : (setPc v s).regs.a = s.regs.a := rfl
@[simp] theorem setPc_f (v : Word) (s : State) : (setPc v s).regs.f = s.regs.f := rfl
@[simp] theorem setPc_b (v : Word) (s : State) : (setPc v s).regs.b = s.regs.b := rfl
@[simp] theorem setPc_c (v : Word) (s : State) : (setPc v s).regs.c = s.regs.c := rfl
@[simp] theorem setPc_d (v : Word) (s : State) : (setPc v s).regs.d = s.regs.d := rfl
@[simp] theorem setPc_e (v : Word) (s : State) : (setPc v s).regs.e = s.regs.e := rfl
@[simp] theorem setPc_h (v : Word) (s : State) : (setPc v s).regs.h = s.regs.h := rfl
@[simp] theorem setPc_l (v : Word) (s : State) : (setPc v s).regs.l = s.regs.l := rfl
@[simp] theorem setPc_sp (v : Word) (s : State) : (setPc v s).regs.sp = s.regs.sp := rfl
@[simp] theorem setPc_pc (v : Word) (s : State) : (setPc v s).regs.pc = v := rfl
@[simp] theorem setPc_ime (v : Word) (s : State) : (setPc v s).ime = s.ime := rfl
@[simp] theorem setPc_imeDelay (v : Word) (s : State) : (setPc v s).imeDelay = s.imeDelay := rfl
@[simp] theorem setPc_ie (v : Word) (s : State) : (setPc v s).ie = s.ie := rfl
@[simp] theorem setPc_iflag (v : Word) (s : State) : (setPc v s).iflag = s.iflag := rfl
@[simp] theorem setPc_halted (v : Word) (s : State) : (setPc v s).halted = s.halted := rfl
@[simp] theorem setPc_haltBug (v : Word) (s : State) : (setPc v s).haltBug = s.haltBug := rfl
@[simp] theorem setPc_failure (v : Word) (s : State) : (setPc v s).failure = s.failure := rfl
@[simp] theorem setPc_timer (v : Word) (s : State) : (setPc v s).timer = s.timer := rfl
@[simp] theorem setPc_mbc (v : Word) (s : State) : (setPc v s).mbc = s.mbc := rfl
@[simp] theorem setPc_cart (v : Word) (s : State) : (setPc v s).cart = s.cart := rfl
@[simp] theorem setPc_mem (v : Word) (s : State) : (setPc v s).mem = s.mem := rfl
@[simp] theorem setPc_cycles (v : Word) (s : State) : (setPc v s).cycles = s.cycles := rfl

@[simp] theorem setSp_a (v : Word) (s : State) : (setSp v s).regs.a = s.regs.a := rfl
@[simp] theorem setSp_f (v : Word) (s : State) : (setSp v s).regs.f = s.regs.f := rfl
@[simp] theorem setSp_b (v : Word) (s : State) : (setSp v s).regs.b = s.regs.b := rfl
@[simp] theorem setSp_c (v : Word) (s : State) : (setSp v s).regs.c = s.regs.c := rfl
@[simp] theorem setSp_d (v : Word) (s : State) : (setSp v s).regs.d = s.regs.d := rfl
@[simp] theorem setSp_e (v : Word) (s : State) : (setSp v s).regs.e = s.regs.e := rfl
@[simp] theorem setSp_h (v : Word) (s : State) : (setSp v s).regs.h = s.regs.h := rfl
@[simp] theorem setSp_l (v : Word) (s : State) : (setSp v s).regs.l = s.regs.l := rfl
@[simp] theorem setSp_sp (v : Word) (s : State) : (setSp v s).regs.sp = v := rfl
@[simp] theorem setSp_pc (v : Word) (s : State) : (setSp v s).regs.pc = s.regs.pc := rfl
@[simp] theorem setSp_ime (v : Word) (s : State) : (setSp v s).ime = s.ime := rfl
@[simp] theorem setSp_imeDelay (v : Word) (s : State) : (setSp v s).imeDelay = s.imeDelay := rfl
@[simp] theorem setSp_ie (v : Word) (s : State) : (setSp v s).ie = s.ie := rfl
@[simp] theorem setSp_iflag (v : Word) (s : State) : (setSp v s).iflag = s.iflag := rfl
@[simp] theorem setSp_halted (v : Word) (s : State) : (setSp v s).halted = s.halted := rfl
@[simp] theorem setSp_haltBug (v : Word) (s : State) : (setSp v s).haltBug = s.haltBug := rfl
@[simp] theorem setSp_failure (v : Word) (s : State) : (setSp v s).failure = s.failure := rfl
@[simp] theorem setSp_timer (v : Word) (s : State) : (setSp v s).timer = s.timer := rfl
@[simp] theorem setSp_mbc (v : Word) (s : State) : (setSp v s).mbc = s.mbc := rfl
@[simp] theorem setSp_cart (v : Word) (s : State) : (setSp v s).cart = s.cart := rfl
@[simp] theorem setSp_mem (v : Word) (s : State) : (setSp v s).mem = s.mem := rfl
@[simp] theorem setSp_cycles (v : Word) (s : State) : (setSp v s).cycles = s.cycles := rfl

@[simp] theorem writeF_a (v : Byte) (s : State) : (writeF v s).regs.a = s.regs.a := rfl
@[simp] theorem writeF_f (v : Byte) (s : State) : (writeF v s).regs.f = v &&& 0xF0 := rfl
@[simp] theorem writeF_b (v : Byte) (s : State) : (writeF v s).regs.b = s.regs.b := rfl
@[simp] theorem writeF_c (v : Byte) (s : State) : (writeF v s).regs.c = s.regs.c := rfl
@[simp] theorem writeF_d (v : Byte) (s : State) : (writeF v s).regs.d = s.regs.d := rfl
@[simp] theorem writeF_e (v : Byte) (s : State) : (writeF v s).regs.e = s.regs.e := rfl
@[simp] theorem writeF_h (v : Byte) (s : State) : (writeF v s).regs.h = s.regs.h := rfl
@[simp] theorem writeF_l (v : Byte) (s : State) : (writeF v s).regs.l = s.regs.l := rfl
@[simp] theorem writeF_sp (v : Byte) (s : State) : (writeF v s).regs.sp = s.regs.sp := rfl
@[simp] theorem writeF_pc (v : Byte) (s : State) : (writeF v s).regs.pc = s.regs.pc := rfl
@[simp] theorem writeF_ime (v : Byte) (s : State) : (writeF v s).ime = s.ime := rfl
@[simp] theorem writeF_imeDelay (v : Byte) (s : State) : (writeF v s).imeDelay = s.imeDelay := rfl
@[simp] theorem writeF_ie (v : Byte) (s : State) : (writeF v s).ie = s.ie := rfl
@[simp] theorem writeF_iflag (v : Byte) (s : State) : (writeF v s).iflag = s.iflag := rfl
@[simp] theorem writeF_halted (v : Byte) (s : State) : (writeF v s).halted = s.halted := rfl
@[simp] theorem writeF_haltBug (v : Byte) (s : State) : (writeF v s).haltBug = s.haltBug := rfl
@[simp] theorem writeF_failure (v : Byte) (s : State) : (writeF v s).failure = s.failure := rfl
@[simp] theorem writeF_timer (v : Byte) (s : State) : (writeF v s).timer = s.timer := rfl
@[simp] theorem writeF_mbc (v : Byte) (s : State) : (writeF v s).mbc = s.mbc := rfl
@[simp] theorem writeF_cart (v : Byte) (s : State) : (writeF v s).cart = s.cart := rfl
@[simp] theorem writeF_mem (v : Byte) (s : State) : (writeF v s).mem = s.mem := rfl
@[simp] theorem writeF_cycles (v : Byte) (s : State) : (writeF v s).cycles = s.cycles := rfl

@[simp] theorem setFlags_a (g : Flags) (s : State) : (setFlags g s).regs.a = s.regs.a := rfl
@[simp] theorem setFlags_f (g : Flags) (s : State) : (setFlags g s).regs.f = byteOfFlags g := rfl
@[simp] theorem setFlags_b (g : Flags) (s : State) : (setFlags g s).regs.b = s.regs.b := rfl
@[simp] theorem setFlags_c (g : Flags) (s : State) : (setFlags g s).regs.c = s.regs.c := rfl
@[simp] theorem setFlags_d (g : Flags) (s : State) : (setFlags g s).regs.d = s.regs.d := rfl
@[simp] theorem setFlags_e (g : Flags) (s : State) : (setFlags g s).regs.e = s.regs.e := rfl
@[simp] theorem setFlags_h (g : Flags) (s : State) : (setFlags g s).regs.h = s.regs.h := rfl
@[simp] theorem setFlags_l (g : Flags) (s : State) : (setFlags g s).regs.l = s.regs.l := rfl
@[simp] theorem setFlags_sp (g : Flags) (s : State) : (setFlags g s).regs.sp = s.regs.sp := rfl
@[simp] theorem setFlags_pc (g : Flags) (s : State) : (setFlags g s).regs.pc = s.regs.pc := rfl
@[simp] theorem setFlags_ime (g : Flags) (s : State) : (setFlags g s).ime = s.ime := rfl
@[simp] theorem setFlags_imeDelay (g : Flags) (s : State) : (setFlags g s).imeDelay = s.imeDelay := rfl
@[simp] theorem setFlags_ie (g : Flags) (s : State) : (setFlags g s).ie = s.ie := rfl
@[simp] theorem setFlags_iflag (g : Flags) (s : State) : (setFlags g s).iflag = s.iflag := rfl
@[simp] theorem setFlags_halted (g : Flags) (s : State) : (setFlags g s).halted = s.halted := rfl
@[simp] theorem setFlags_haltBug (g : Flags) (s : State) : (setFlags g s).haltBug = s.haltBug := rfl
@[simp] theorem setFlags_failure (g : Flags) (s : State) : (setFlags g s).failure = s.failure := rfl
@[simp] theorem setFlags_timer (g : Flags) (s : State) : (setFlags g s).timer = s.timer := rfl
@[simp] theorem setFlags_mbc (g : Flags) (s : State) : (setFlags g s).mbc = s.mbc := rfl
@[simp] theorem setFlags_cart (g : Flags) (s : State) : (setFlags g s).cart = s.cart := rfl
@[simp] theorem setFlags_mem (g : Flags) (s : State) : (setFlags g s).mem = s.mem := rfl
@[simp] theorem setFlags_cycles (g : Flags) (s : State) : (setFlags g s).cycles = s.cycles := rfl

@[simp] theorem afterFetch_a (len : Nat) (s : State) : (afterFetch len s).regs.a = s.regs.a := rfl
@[simp] theorem afterFetch_f (len : Nat) (s : State) : (afterFetch len s).regs.f = s.regs.f := rfl
@[simp] theorem afterFetch_b (len : Nat) (s : State) : (afterFetch len s).regs.b = s.regs.b := rfl
@[simp] theorem afterFetch_c (len : Nat) (s : State) : (afterFetch len s).regs.c = s.regs.c := rfl
@[simp] theorem afterFetch_d (len : Nat) (s : State) : (afterFetch len s).regs.d = s.regs.d := rfl
@[simp] theorem afterFetch_e (len : Nat) (s : State) : (afterFetch len s).regs.e = s.regs.e := rfl
@[simp] theorem afterFetch_h (len : Nat) (s : State) : (afterFetch len s).regs.h = s.regs.h := rfl
@[simp] theorem afterFetch_l (len : Nat) (s : State) : (afterFetch len s).regs.l = s.regs.l := rfl
@[simp] theorem afterFetch_sp (len : Nat) (s : State) : (afterFetch len s).regs.sp = s.regs.sp := rfl
@[simp] theorem afterFetch_pc (len : Nat) (s : State) : (afterFetch len s).regs.pc = pcAfterFetch len s := rfl
@[simp] theorem afterFetch_ime (len : Nat) (s : State) : (afterFetch len s).ime = s.ime := rfl
@[simp] theorem afterFetch_imeDelay (len : Nat) (s : State) : (afterFetch len s).imeDelay = s.imeDelay := rfl
@[simp] theorem afterFetch_ie (len : Nat) (s : State) : (afterFetch len s).ie = s.ie := rfl
@[simp] theorem afterFetch_iflag (len : Nat) (s : State) : (afterFetch len s).iflag = s.iflag := rfl
@[simp] theorem afterFetch_halted (len : Nat) (s : State) : (afterFetch len s).halted = s.halted := rfl
@[simp] theorem afterFetch_haltBug (len : Nat) (s : State) : (afterFetch len s).haltBug = false := rfl
@[simp] theorem afterFetch_failure (len : Nat) (s : State) : (afterFetch len s).failure = s.failure := rfl
@[simp] theorem afterFetch_timer (len : Nat) (s : State) : (afterFetch len s).timer = s.timer := rfl
@[simp] theorem afterFetch_mbc (len : Nat) (s : State) : (afterFetch len s).mbc = s.mbc := rfl
@[simp] theorem afterFetch_cart (len : Nat) (s : State) : (afterFetch len s).cart = s.cart := rfl
@[simp] theorem afterFetch_mem (len : Nat) (s : State) : (afterFetch len s).mem = s.mem := rfl
@[simp] theorem afterFetch_cycles (len : Nat) (s : State) : (afterFetch len s).cycles = s.cycles := rfl

@[simp] theorem popped_a (s : State) : (popped s).regs.a = s.regs.a := rfl
@[simp] theorem popped_f (s : State) : (popped s).regs.f = s.regs.f := rfl
@[simp] theorem popped_b (s : State) : (popped s).regs.b = s.regs.b := rfl
@[simp] theorem popped_c (s : State) : (popped s).regs.c = s.regs.c := rfl
@[simp] theorem popped_d (s : State) : (popped s).regs.d = s.regs.d := rfl
@[simp] theorem popped_e (s : State) : (popped s).regs.e = s.regs.e := rfl
@[simp] theorem popped_h (s : State) : (popped s).regs.h = s.regs.h := rfl
@[simp] theorem popped_l (s : State) : (popped s).regs.l = s.regs.l := rfl
@[simp] theorem popped_sp (s : State) : (popped s).regs.sp = s.regs.sp + 2 := rfl
@[simp] theorem popped_pc (s : State) : (popped s).regs.pc = s.regs.pc := rfl
@[simp] theorem popped_ime (s : State) : (popped s).ime = s.ime := rfl
@[simp] theorem popped_imeDelay (s : State) : (popped s).imeDelay = s.imeDelay := rfl
@[simp] theorem popped_ie (s : State) : (popped s).ie = s.ie := rfl
@[simp] theorem popped_iflag (s : State) : (popped s).iflag = s.iflag := rfl
@[simp] theorem popped_halted (s : State) : (popped s).halted = s.halted := rfl
@[simp] theorem popped_haltBug (s : State) : (popped s).haltBug = s.haltBug := rfl
@[simp] theorem popped_failure (s : State) : (popped s).failure = s.failure := rfl
@[simp] theorem popped_timer (s : State) : (popped s).timer = s.timer := rfl
@[simp] theorem popped_mbc (s : State) : (popped s).mbc = s.mbc := rfl
@[simp] theorem popped_cart (s : State) : (popped s).cart = s.cart := rfl
@[simp] theorem popped_mem (s : State) : (popped s).mem = s.mem := rfl
@[simp] theorem popped_cycles (s : State) : (popped s).cycles = s.cycles := rfl

@[simp] theorem requestInterrupt_a (i : Nat) (s : State) : (requestInterrupt i s).regs.a = s.regs.a := rfl
@[simp] theorem requestInterrupt_f (i : Nat) (s : State) : (requestInterrupt i s).regs.f = s.regs.f := rfl
@[simp] theorem requestInterrupt_b (i : Nat) (s : State) : (requestInterrupt i s).regs.b = s.regs.b := rfl
@[simp] theorem requestInterrupt_c (i : Nat) (s : State) : (requestInterrupt i s).regs.c = s.regs.c := rfl
@[simp] theorem requestInterrupt_d (i : Nat) (s : State) : (requestInterrupt i s).regs.d = s.regs.d := rfl
@[simp] theorem requestInterrupt_e (i : Nat) (s : State) : (requestInterrupt i s).regs.e = s.regs.e := rfl
@[simp] theorem requestInterrupt_h (i : Nat) (s : State) : (requestInterrupt i s).regs.h = s.regs.h := rfl
@[simp] theorem requestInterrupt_l (i : Nat) (s : State) : (requestInterrupt i s).regs.l = s.regs.l := rfl
@[simp] theorem requestInterrupt_sp (i : Nat) (s : State) : (requestInterrupt i s).regs.sp = s.regs.sp := rfl
@[simp] theorem requestInterrupt_pc (i : Nat) (s : State) : (requestInterrupt i s).regs.pc = s.regs.pc := rfl
@[simp] theorem requestInterrupt_ime (i : Nat) (s : State) : (requestInterrupt i s).ime = s.ime := rfl
@[simp] theorem requestInterrupt_imeDelay (i : Nat) (s : State) : (requestInterrupt i s).imeDelay = s.imeDelay := rfl
@[simp] theorem requestInterrupt_ie (i : Nat) (s : State) : (requestInterrupt i s).ie = s.ie := rfl
@[simp] theorem requestInterrupt_iflag (i : Nat) (s : State) : (requestInterrupt i s).iflag = s.iflag ||| ((1 : BitVec 5) <<< i) := rfl
@[simp] theorem requestInterrupt_halted (i : Nat) (s : State) : (requestInterrupt i s).halted = s.halted := rfl
@[simp] theorem requestInterrupt_haltBug (i : Nat) (s : State) : (requestInterrupt i s).haltBug = s.haltBug := rfl
@[simp] theorem requestInterrupt_failure (i : Nat) (s : State) : (requestInterrupt i s).failure = s.failure := rfl
@[simp] theorem requestInterrupt_timer (i : Nat) (s : State) : (requestInterrupt i s).timer = s.timer := rfl
@[simp] theorem requestInterrupt_mbc (i : Nat) (s : State) : (requestInterrupt i s).mbc = s.mbc := rfl
@[simp] theorem requestInterrupt_cart (i : Nat) (s : State) : (requestInterrupt i s).cart = s.cart := rfl
@[simp] theorem requestInterrupt_mem (i : Nat) (s : State) : (requestInterrupt i s).mem = s.mem := rfl
@[simp] theorem requestInterrupt_cycles (i : Nat) (s : State) : (requestInterrupt i s).cycles = s.cycles := rfl

@[simp] theorem withTimer_a (r : Timer × Bool) (s : State) : (withTimer r s).regs.a = s.regs.a := by unfold withTimer requestInterrupt; split <;> rfl
@[simp] theorem withTimer_f (r : Timer × Bool) (s : State) : (withTimer r s).regs.f = s.regs.f := by unfold withTimer requestInterrupt; split <;> rfl
@[simp] theorem withTimer_b (r : Timer × Bool) (s : State) : (withTimer r s).regs.b = s.regs.b := by unfold withTimer requestInterrupt; split <;> rfl
@[simp] theorem withTimer_c (r : Timer × Bool) (s : State) : (withTimer r s).regs.c = s.regs.c := by unfold withTimer requestInterrupt; split <;> rfl
@[simp] theorem withTimer_d (r : Timer × Bool) (s : State) : (withTimer r s).regs.d = s.regs.d := by unfold withTimer requestInterrupt; split <;> rfl
@[simp] theorem withTimer_e (r : Timer × Bool) (s : State) : (withTimer r s).regs.e = s.regs.e := by unfold withTimer requestInterrupt; split <;> rfl
@[simp] theorem withTimer_h (r : Timer × Bool) (s : State) : (withTimer r s).regs.h = s.regs.h := by unfold withTimer requestInterrupt; split <;> rfl
@[simp] theorem withTimer_l (r : Timer × Bool) (s : State) : (withTimer r s).regs.l = s.regs.l := by unfold withTimer requestInterrupt; split <;> rfl
@[simp] theorem withTimer_sp (r : Timer × Bool) (s : State) : (withTimer r s).regs.sp = s.regs.sp := by unfold withTimer requestInterrupt; split <;> rfl
@[simp] theorem withTimer_pc (r : Timer × Bool) (s : State) : (withTimer r s).regs.pc = s.regs.pc := by unfold withTimer requestInterrupt; split <;> rfl
@[simp] theorem withTimer_ime (r : Timer × Bool) (s : State) : (withTimer r s).ime = s.ime := by unfold withTimer requestInterrupt; split <;> rfl
@[simp] theorem withTimer_imeDelay (r : Timer × Bool) (s : State) : (withTimer r s).imeDelay = s.imeDelay := by unfold withTimer requestInterrupt; split <;> rfl
@[simp] theorem withTimer_ie (r : Timer × Bool) (s : State) : (withTimer r s).ie = s.ie := by unfold withTimer requestInterrupt; split <;> rfl
@[simp] theorem withTimer_iflag (r : Timer × Bool) (s : State) : (withTimer r s).iflag = if r.2 then s.iflag ||| ((1 : BitVec 5) <<< 2) else s.iflag := by unfold withTimer requestInterrupt; split <;> rfl
@[simp] theorem withTimer_halted (r : Timer × Bool) (s : State) : (withTimer r s).halted = s.halted := by unfold withTimer requestInterrupt; split <;> rfl
@[simp] theorem withTimer_haltBug (r : Timer × Bool) (s : State) : (withTimer r s).haltBug = s.haltBug := by unfold withTimer requestInterrupt; split <;> rfl
@[simp] theorem withTimer_failure (r : Timer × Bool) (s : State) : (withTimer r s).failure = s.failure := by unfold withTimer requestInterrupt; split <;> rfl
@[simp] theorem withTimer_timer (r : Timer × Bool) (s : State) : (withTimer r s).timer = r.1 := by unfold withTimer requestInterrupt; split <;> rfl
@[simp] theorem withTimer_mbc (r : Timer × Bool) (s : State) : (withTimer r s).mbc = s.mbc := by unfold withTimer requestInterrupt; split <;> rfl
@[simp] theorem withTimer_cart (r : Timer × Bool) (s : State) : (withTimer r s).cart = s.cart := by unfold withTimer requestInterrupt; split <;> rfl
@[simp] theorem withTimer_mem (r : Timer × Bool) (s : State) : (withTimer r s).mem = s.mem := by unfold withTimer requestInterrupt; split <;> rfl
@[simp] theorem withTimer_cycles (r : Timer × Bool) (s : State) : (withTimer r s).cycles = s.cycles := by unfold withTimer requestInterrupt; split <;> rfl

@[simp] theorem timerAdvance_a (n : Nat) (s : State) : (timerAdvance n s).regs.a = s.regs.a := by simp [timerAdvance]
@[simp] theorem timerAdvance_f (n : Nat) (s : State) : (timerAdvance n s).regs.f = s.regs.f := by simp [timerAdvance]
@[simp] theorem timerAdvance_b (n : Nat) (s : State) : (timerAdvance n s).regs.b = s.regs.b := by simp [timerAdvance]
@[simp] theorem timerAdvance_c (n : Nat) (s : State) : (timerAdvance n s).regs.c = s.regs.c := by simp [timerAdvance]
@[simp] theorem timerAdvance_d (n : Nat) (s : State) : (timerAdvance n s).regs.d = s.regs.d := by simp [timerAdvance]
@[simp] theorem timerAdvance_e (n : Nat) (s : State) : (timerAdvance n s).regs.e = s.regs.e := by simp [timerAdvance]
@[simp] theorem timerAdvance_h (n : Nat) (s : State) : (timerAdvance n s).regs.h = s.regs.h := by simp [timerAdvance]
@[simp] theorem timerAdvance_l (n : Nat) (s : State) : (timerAdvance n s).regs.l = s.regs.l := by simp [timerAdvance]
@[simp] theorem timerAdvance_sp (n : Nat) (s : State) : (timerAdvance n s).regs.sp = s.regs.sp := by simp [timerAdvance]
@[simp] theorem timerAdvance_pc (n : Nat) (s : State) : (timerAdvance n s).regs.pc = s.regs.pc := by simp [timerAdvance]
@[simp] theorem timerAdvance_ime (n : Nat) (s : State) : (timerAdvance n s).ime = s.ime := by simp [timerAdvance]
@[simp] theorem timerAdvance_imeDelay (n : Nat) (s : State) : (timerAdvance n s).imeDelay = s.imeDelay := by simp [timerAdvance]
@[simp] theorem timerAdvance_ie (n : Nat) (s : State) : (timerAdvance n s).ie = s.ie := by simp [timerAdvance]
@[simp] theorem timerAdvance_iflag (n : Nat) (s : State) : (timerAdvance n s).iflag = if (timerRun n s.timer).2 then s.iflag ||| ((1 : BitVec 5) <<< 2) else s.iflag := by simp [timerAdvance]
@[simp] theorem timerAdvance_halted (n : Nat) (s : State) : (timerAdvance n s).halted = s.halted := by simp [timerAdvance]
@[simp] theorem timerAdvance_haltBug (n : Nat) (s : State) : (timerAdvance n s).haltBug = s.haltBug := by simp [timerAdvance]
@[simp] theorem timerAdvance_failure (n : Nat) (s : State) : (timerAdvance n s).failure = s.failure := by simp [timerAdvance]
@[simp] theorem timerAdvance_timer (n : Nat) (s : State) : (timerAdvance n s).timer = (timerRun n s.timer).1 := by simp [timerAdvance]
@[simp] theorem timerAdvance_mbc (n : Nat) (s : State) : (timerAdvance n s).mbc = s.mbc := by simp [timerAdvance]
@[simp] theorem timerAdvance_cart (n : Nat) (s : State) : (timerAdvance n s).cart = s.cart := by simp [timerAdvance]
@[simp] theorem timerAdvance_mem (n : Nat) (s : State) : (timerAdvance n s).mem = s.mem := by simp [timerAdvance]
@[simp] theorem timerAdvance_cycles (n : Nat) (s : State) : (timerAdvance n s).cycles = s.cycles := by simp [timerAdvance]

@[simp] theorem writeR8_f (r : R8) (v : Byte) (s : State) : (writeR8 r v s).regs.f = s.regs.f := by cases r <;> rfl
@[simp] theorem writeR8_sp (r : R8) (v : Byte) (s : State) : (writeR8 r v s).regs.sp = s.regs.sp := by cases r <;> rfl
@[simp] theorem writeR8_pc (r : R8) (v : Byte) (s : State) : (writeR8 r v s).regs.pc = s.regs.pc := by cases r <;> rfl
@[simp] theorem writeR8_ime (r : R8) (v : Byte) (s : State) : (writeR8 r v s).ime = s.ime := by cases r <;> rfl
@[simp] theorem writeR8_imeDelay (r : R8) (v : Byte) (s : State) : (writeR8 r v s).imeDelay = s.imeDelay := by cases r <;> rfl
@[simp] theorem writeR8_ie (r : R8) (v : Byte) (s : State) : (writeR8 r v s).ie = s.ie := by cases r <;> rfl
@[simp] theorem writeR8_iflag (r : R8) (v : Byte) (s : State) : (writeR8 r v s).iflag = s.iflag := by cases r <;> rfl
@[simp] theorem writeR8_halted (r : R8) (v : Byte) (s : State) : (writeR8 r v s).halted = s.halted := by cases r <;> rfl
@[simp] theorem writeR8_haltBug (r : R8) (v : Byte) (s : State) : (writeR8 r v s).haltBug = s.haltBug := by cases r <;> rfl
@[simp] theorem writeR8_failure (r : R8) (v : Byte) (s : State) : (writeR8 r v s).failure = s.failure := by cases r <;> rfl
@[simp] theorem writeR8_timer (r : R8) (v : Byte) (s : State) : (writeR8 r v s).timer = s.timer := by cases r <;> rfl
@[simp] theorem writeR8_mbc (r : R8) (v : Byte) (s : State) : (writeR8 r v s).mbc = s.mbc := by cases r <;> rfl
@[simp] theorem writeR8_cart (r : R8) (v : Byte) (s : State) : (writeR8 r v s).cart = s.cart := by cases r <;> rfl
@[simp] theorem writeR8_mem (r : R8) (v : Byte) (s : State) : (writeR8 r v s).mem = s.mem := by cases r <;> rfl
@[simp] theorem writeR8_cycles (r : R8) (v : Byte) (s : State) : (writeR8 r v s).cycles = s.cycles := by cases r <;> rfl

@[simp] theorem writeR16_a (p : R16) (v : Word) (s : State) : (writeR16 p v s).regs.a = s.regs.a := by cases p <;> rfl
@[simp] theorem writeR16_f (p : R16) (v : Word) (s : State) : (writeR16 p v s).regs.f = s.regs.f := by cases p <;> rfl
@[simp] theorem writeR16_pc (p : R16) (v : Word) (s : State) : (writeR16 p v s).regs.pc = s.regs.pc := by cases p <;> rfl
@[simp] theorem writeR16_ime (p : R16) (v : Word) (s : State) : (writeR16 p v s).ime = s.ime := by cases p <;> rfl
@[simp] theorem writeR16_imeDelay (p : R16) (v : Word) (s : State) : (writeR16 p v s).imeDelay = s.imeDelay := by cases p <;> rfl
@[simp] theorem writeR16_ie (p : R16) (v : Word) (s : State) : (writeR16 p v s).ie = s.ie := by cases p <;> rfl
@[simp] theorem writeR16_iflag (p : R16) (v : Word) (s : State) : (writeR16 p v s).iflag = s.iflag := by cases p <;> rfl
@[simp] theorem writeR16_halted (p : R16) (v : Word) (s : State) : (writeR16 p v s).halted = s.halted := by cases p <;> rfl
@[simp] theorem writeR16_haltBug (p : R16) (v : Word) (s : State) : (writeR16 p v s).haltBug = s.haltBug := by cases p <;> rfl
@[simp] theorem writeR16_failure (p : R16) (v : Word) (s : State) : (writeR16 p v s).failure = s.failure := by cases p <;> rfl
@[simp] theorem writeR16_timer (p : R16) (v : Word) (s : State) : (writeR16 p v s).timer = s.timer := by cases p <;> rfl
@[simp] theorem writeR16_mbc (p : R16) (v : Word) (s : State) : (writeR16 p v s).mbc = s.mbc := by cases p <;> rfl
@[simp] theorem writeR16_cart (p : R16) (v : Word) (s : State) : (writeR16 p v s).cart = s.cart := by cases p <;> rfl
@[simp] theorem writeR16_mem (p : R16) (v : Word) (s : State) : (writeR16 p v s).mem = s.mem := by cases p <;> rfl
@[simp] theorem writeR16_cycles (p : R16) (v : Word) (s : State) : (writeR16 p v s).cycles = s.cycles := by cases p <;> rfl

/-! ## Reading registers after an update -/

@[simp] theorem readR8_writeR8_self (r : R8) (v : Byte) (s : State) : readR8 r (writeR8 r v s) = v := by cases r <;> rfl

theorem readR8_writeR8_ne {r q : R8} (h : r ≠ q) (v : Byte) (s : State) : readR8 r (writeR8 q v s) = readR8 r s := by
  cases r <;> cases q <;> first | rfl | exact absurd rfl h

theorem readR8_congr {s t : State} (r : R8) (ha : t.regs.a = s.regs.a) (hb : t.regs.b = s.regs.b) (hc : t.regs.c = s.regs.c)
    (hd : t.regs.d = s.regs.d) (he : t.regs.e = s.regs.e) (hh : t.regs.h = s.regs.h) (hl : t.regs.l = s.regs.l) :
    readR8 r t = readR8 r s := by
  cases r <;> assumption

@[simp] theorem readR8_setPc (r : R8) (v : Word) (s : State) : readR8 r (setPc v s) = readR8 r s := by cases r <;> rfl
@[simp] theorem readR8_setSp (r : R8) (v : Word) (s : State) : readR8 r (setSp v s) = readR8 r s := by cases r <;> rfl
@[simp] theorem readR8_setFlags (r : R8) (g : Flags) (s : State) : readR8 r (setFlags g s) = readR8 r s := by cases r <;> rfl
@[simp] theorem readR8_writeF (r : R8) (v : Byte) (s : State) : readR8 r (writeF v s) = readR8 r s := by cases r <;> rfl
@[simp] theorem readR8_afterFetch (r : R8) (n : Nat) (s : State) : readR8 r (afterFetch n s) = readR8 r s := by cases r <;> rfl
@[simp] theorem readR8_popped (r : R8) (s : State) : readR8 r (popped s) = readR8 r s := by cases r <;> rfl

/-! ## Bytes and words -/

@[simp] theorem hiByte_pairOf (h l : Byte) : hiByte (pairOf h l) = h := by
  apply BitVec.eq_of_getLsbD_eq
  intro i hi
  have h8 : ¬ 8 + i < 8 := by omega
  have e : 8 + i - 8 = i := by omega
  simp only [hiByte, pairOf, BitVec.getLsbD_extractLsb', BitVec.getLsbD_append, h8, e, hi]
  simp

@[simp] theorem loByte_pairOf (h l : Byte) : loByte (pairOf h l) = l := by
  apply BitVec.eq_of_getLsbD_eq
  intro i hi
  simp only [loByte, pairOf, BitVec.getLsbD_extractLsb', BitVec.getLsbD_append, Nat.zero_add, hi]
  simp

@[simp] theorem pairOf_hiByte_loByte (v : Word) : pairOf (hiByte v) (loByte v) = v := by
  apply BitVec.eq_of_getLsbD_eq
  intro i hi
  simp only [hiByte, loByte, pairOf, BitVec.getLsbD_append, BitVec.getLsbD_extractLsb']
  by_cases h : i < 8
  · simp [h]
  · have h8 : i - 8 < 8 := by omega
    have e : 8 + (i - 8) = i := by omega
    simp [h, h8, e]

@[simp] theorem readR16_writeR16_self (p : R16) (v : Word) (s : State) : readR16 p (writeR16 p v s) = v := by
  cases p
  · exact pairOf_hiByte_loByte v
  · exact pairOf_hiByte_loByte v
  · exact pairOf_hiByte_loByte v
  · rfl

@[simp] theorem readR16_setPc (p : R16) (v : Word) (s : State) : readR16 p (setPc v s) = readR16 p s := by cases p <;> rfl
@[simp] theorem readR16_afterFetch (p : R16) (n : Nat) (s : State) : readR16 p (afterFetch n s) = readR16 p s := by cases p <;> rfl

/-! ## The flags in F -/

@[simp] theorem flagsOfByte_byteOfFlags (g : Flags) : flagsOfByte (byteOfFlags g) = g := by
  obtain ⟨z, n, h, c⟩ := g
  cases z <;> cases n <;> cases h <;> cases c <;> rfl

/-- F written by its flags has a zero low nibble (10 R34). -/
@[simp] theorem byteOfFlags_lowNibble (g : Flags) : byteOfFlags g &&& 0x0F#8 = 0#8 := by
  obtain ⟨z, n, h, c⟩ := g
  cases z <;> cases n <;> cases h <;> cases c <;> rfl

@[simp] theorem getFlags_setFlags (g : Flags) (s : State) : getFlags (setFlags g s) = g := flagsOfByte_byteOfFlags g

theorem getFlags_congr {s t : State} (h : t.regs.f = s.regs.f) : getFlags t = getFlags s := by
  unfold getFlags
  rw [h]

end Sys2Proof.Machine
end

