-- ==== Sys2Proof/Laws/Bus.lean ====
section
/-!
SUPPORT. The laws of the bus and the stack: what a store leaves alone, that a read depends on the bus state only, and that a store
keeps every array canonical.
-/

namespace Sys2Proof.Machine

open Sys2Proof

/-! ## What a store leaves alone -/

@[simp] theorem extRamWrite_regs (off : Nat) (v : Byte) (s : State) : (extRamWrite off v s).regs = s.regs := by
  unfold extRamWrite; split <;> rfl

@[simp] theorem extRamWrite_ime (off : Nat) (v : Byte) (s : State) : (extRamWrite off v s).ime = s.ime := by
  unfold extRamWrite; split <;> rfl

@[simp] theorem extRamWrite_imeDelay (off : Nat) (v : Byte) (s : State) : (extRamWrite off v s).imeDelay = s.imeDelay := by
  unfold extRamWrite; split <;> rfl

@[simp] theorem extRamWrite_halted (off : Nat) (v : Byte) (s : State) : (extRamWrite off v s).halted = s.halted := by
  unfold extRamWrite; split <;> rfl

@[simp] theorem extRamWrite_haltBug (off : Nat) (v : Byte) (s : State) : (extRamWrite off v s).haltBug = s.haltBug := by
  unfold extRamWrite; split <;> rfl

@[simp] theorem extRamWrite_failure (off : Nat) (v : Byte) (s : State) : (extRamWrite off v s).failure = s.failure := by
  unfold extRamWrite; split <;> rfl

@[simp] theorem extRamWrite_cart (off : Nat) (v : Byte) (s : State) : (extRamWrite off v s).cart = s.cart := by
  unfold extRamWrite; split <;> rfl

@[simp] theorem extRamWrite_cycles (off : Nat) (v : Byte) (s : State) : (extRamWrite off v s).cycles = s.cycles := by
  unfold extRamWrite; split <;> rfl

@[simp] theorem ioWrite_regs (a : Nat) (v : Byte) (s : State) : (ioWrite a v s).regs = s.regs := by
  unfold ioWrite withTimer requestInterrupt; split_ifs <;> rfl

@[simp] theorem ioWrite_ime (a : Nat) (v : Byte) (s : State) : (ioWrite a v s).ime = s.ime := by
  unfold ioWrite withTimer requestInterrupt; split_ifs <;> rfl

@[simp] theorem ioWrite_imeDelay (a : Nat) (v : Byte) (s : State) : (ioWrite a v s).imeDelay = s.imeDelay := by
  unfold ioWrite withTimer requestInterrupt; split_ifs <;> rfl

@[simp] theorem ioWrite_halted (a : Nat) (v : Byte) (s : State) : (ioWrite a v s).halted = s.halted := by
  unfold ioWrite withTimer requestInterrupt; split_ifs <;> rfl

@[simp] theorem ioWrite_haltBug (a : Nat) (v : Byte) (s : State) : (ioWrite a v s).haltBug = s.haltBug := by
  unfold ioWrite withTimer requestInterrupt; split_ifs <;> rfl

@[simp] theorem ioWrite_failure (a : Nat) (v : Byte) (s : State) : (ioWrite a v s).failure = s.failure := by
  unfold ioWrite withTimer requestInterrupt; split_ifs <;> rfl

@[simp] theorem ioWrite_cart (a : Nat) (v : Byte) (s : State) : (ioWrite a v s).cart = s.cart := by
  unfold ioWrite withTimer requestInterrupt; split_ifs <;> rfl

@[simp] theorem ioWrite_cycles (a : Nat) (v : Byte) (s : State) : (ioWrite a v s).cycles = s.cycles := by
  unfold ioWrite withTimer requestInterrupt; split_ifs <;> rfl

@[simp] theorem memWrite_regs (a : Word) (v : Byte) (s : State) : (memWrite a v s).regs = s.regs := by
  unfold memWrite; split <;> simp

@[simp] theorem memWrite_ime (a : Word) (v : Byte) (s : State) : (memWrite a v s).ime = s.ime := by
  unfold memWrite; split <;> simp

@[simp] theorem memWrite_imeDelay (a : Word) (v : Byte) (s : State) : (memWrite a v s).imeDelay = s.imeDelay := by
  unfold memWrite; split <;> simp

@[simp] theorem memWrite_halted (a : Word) (v : Byte) (s : State) : (memWrite a v s).halted = s.halted := by
  unfold memWrite; split <;> simp

@[simp] theorem memWrite_haltBug (a : Word) (v : Byte) (s : State) : (memWrite a v s).haltBug = s.haltBug := by
  unfold memWrite; split <;> simp

@[simp] theorem memWrite_failure (a : Word) (v : Byte) (s : State) : (memWrite a v s).failure = s.failure := by
  unfold memWrite; split <;> simp

@[simp] theorem memWrite_cart (a : Word) (v : Byte) (s : State) : (memWrite a v s).cart = s.cart := by
  unfold memWrite; split <;> simp

@[simp] theorem memWrite_cycles (a : Word) (v : Byte) (s : State) : (memWrite a v s).cycles = s.cycles := by
  unfold memWrite; split <;> simp

@[simp] theorem readR8_memWrite (r : R8) (a : Word) (v : Byte) (s : State) : readR8 r (memWrite a v s) = readR8 r s := by
  cases r <;> simp [readR8]

@[simp] theorem readR16_memWrite (p : R16) (a : Word) (v : Byte) (s : State) : readR16 p (memWrite a v s) = readR16 p s := by
  cases p <;> simp [readR16]

@[simp] theorem getFlags_memWrite (a : Word) (v : Byte) (s : State) : getFlags (memWrite a v s) = getFlags s := by
  simp [getFlags]

/-! ## The bus state is all an access depends on -/

theorem SameBus.refl (s : State) : SameBus s s := ⟨rfl, rfl, rfl, rfl, rfl, rfl⟩

theorem SameBus.symm {s t : State} (h : SameBus s t) : SameBus t s :=
  ⟨h.1.symm, h.2.1.symm, h.2.2.1.symm, h.2.2.2.1.symm, h.2.2.2.2.1.symm, h.2.2.2.2.2.symm⟩

theorem SameBus.trans {s t u : State} (h : SameBus s t) (k : SameBus t u) : SameBus s u :=
  ⟨k.1.trans h.1, k.2.1.trans h.2.1, k.2.2.1.trans h.2.2.1, k.2.2.2.1.trans h.2.2.2.1, k.2.2.2.2.1.trans h.2.2.2.2.1,
    k.2.2.2.2.2.trans h.2.2.2.2.2⟩

/-- A read of one byte gives the same in states with the same bus. -/
theorem memRead_congr {s t : State} (h : SameBus s t) (x : Word) : memRead x t = memRead x s := by
  obtain ⟨h1, h2, h3, h4, h5, h6⟩ := h
  unfold memRead romRead extRamRead ioRead
  rw [h1, h2, h3, h4, h5, h6]

theorem KeepsBus.of_sameBus {s t : State} (h : SameBus s t) : KeepsBus s t := ⟨h, memRead_congr h⟩

/-- A store acts the same on the same bus. -/
theorem memWrite_congr {s t : State} (h : SameBus s t) (a : Word) (v : Byte) : SameBus (memWrite a v s) (memWrite a v t) := by
  obtain ⟨h1, h2, h3, h4, h5, h6⟩ := h
  unfold memWrite
  split
  case _ => exact ⟨h1, by rw [h2, h3], h3, h4, h5, h6⟩
  case _ => exact ⟨h1, by rw [h2, h3], h3, h4, h5, h6⟩
  case _ => exact ⟨by simp only [h1], h2, h3, h4, h5, h6⟩
  case _ =>
    unfold extRamWrite
    rw [h2, h3]
    split
    · exact ⟨by simp only [h1], rfl, rfl, h4, h5, h6⟩
    · exact ⟨h1, h2, h3, h4, h5, h6⟩
  case _ => exact ⟨by simp only [h1], h2, h3, h4, h5, h6⟩
  case _ => exact ⟨by simp only [h1], h2, h3, h4, h5, h6⟩
  case _ => exact ⟨by simp only [h1], h2, h3, h4, h5, h6⟩
  case _ => exact ⟨h1, h2, h3, h4, h5, h6⟩
  case _ =>
    unfold ioWrite withTimer requestInterrupt
    rw [h4]
    split_ifs <;> first | exact ⟨h1, h2, h3, rfl, h5, h6⟩ | exact ⟨h1, h2, h3, rfl, h5, by simp only [h6]⟩ | exact ⟨h1, h2, h3, h4, h5, rfl⟩ | exact ⟨by simp only [h1], h2, h3, rfl, h5, h6⟩
  case _ => exact ⟨by simp only [h1], h2, h3, h4, h5, h6⟩
  case _ => exact ⟨h1, h2, h3, h4, rfl, h6⟩

theorem sameBus_afterFetch (n : Nat) (s : State) : SameBus s (afterFetch n s) := SameBus.refl s

theorem sameBus_setSp (v : Word) (s : State) : SameBus s (setSp v s) := SameBus.refl s

/-! ## The stack -/

/-- A push as two stores on the bus of `s`, and SP. -/
theorem push16_sameBus (v : Word) (s : State) :
    SameBus (memWrite (s.regs.sp - 2) (loByte v) (memWrite (s.regs.sp - 1) (hiByte v) s)) (push16 v s) := by
  have e : s.regs.sp - 1 - 1 = s.regs.sp - 2 := by bv_omega
  unfold push16
  simp only [setSp_sp, memWrite_regs, e]
  exact memWrite_congr (SameBus.trans (memWrite_congr (sameBus_setSp _ s) _ _) (sameBus_setSp _ _)) _ _

@[simp] theorem push16_sp (v : Word) (s : State) : (push16 v s).regs.sp = s.regs.sp - 2 := by
  simp only [push16, memWrite_regs, setSp_sp]
  bv_omega

@[simp] theorem push16_a (v : Word) (s : State) : (push16 v s).regs.a = s.regs.a := by simp [push16]

@[simp] theorem push16_f (v : Word) (s : State) : (push16 v s).regs.f = s.regs.f := by simp [push16]

@[simp] theorem push16_b (v : Word) (s : State) : (push16 v s).regs.b = s.regs.b := by simp [push16]

@[simp] theorem push16_c (v : Word) (s : State) : (push16 v s).regs.c = s.regs.c := by simp [push16]

@[simp] theorem push16_d (v : Word) (s : State) : (push16 v s).regs.d = s.regs.d := by simp [push16]

@[simp] theorem push16_e (v : Word) (s : State) : (push16 v s).regs.e = s.regs.e := by simp [push16]

@[simp] theorem push16_h (v : Word) (s : State) : (push16 v s).regs.h = s.regs.h := by simp [push16]

@[simp] theorem push16_l (v : Word) (s : State) : (push16 v s).regs.l = s.regs.l := by simp [push16]

@[simp] theorem push16_pc (v : Word) (s : State) : (push16 v s).regs.pc = s.regs.pc := by simp [push16]

@[simp] theorem push16_ime (v : Word) (s : State) : (push16 v s).ime = s.ime := by simp [push16]

@[simp] theorem push16_imeDelay (v : Word) (s : State) : (push16 v s).imeDelay = s.imeDelay := by simp [push16]

@[simp] theorem push16_halted (v : Word) (s : State) : (push16 v s).halted = s.halted := by simp [push16]

@[simp] theorem push16_haltBug (v : Word) (s : State) : (push16 v s).haltBug = s.haltBug := by simp [push16]

@[simp] theorem push16_failure (v : Word) (s : State) : (push16 v s).failure = s.failure := by simp [push16]

@[simp] theorem push16_cart (v : Word) (s : State) : (push16 v s).cart = s.cart := by simp [push16]

@[simp] theorem push16_cycles (v : Word) (s : State) : (push16 v s).cycles = s.cycles := by simp [push16]

@[simp] theorem readR8_push16 (r : R8) (v : Word) (s : State) : readR8 r (push16 v s) = readR8 r s := by cases r <;> simp [readR8]

/-! ## Every store keeps the arrays canonical -/

/-- The cell an external RAM access names lies within `ext_ram`. -/
theorem extRamCell_lt {c : Cart} {m : Mbc} {off p : Nat} (hk : c.kind = .mbc2 → c.ramSize = 512)
    (h : extRamCell c m off = some p) : p < c.ramSize := by
  have ho : ∀ b, 0 < c.ramSize → ramOffset c.ramSize b off < c.ramSize := fun b hp => Nat.mod_lt _ hp
  unfold extRamCell at h
  split at h
  · split at h
    · cases h; exact ho _ ‹_›
    · cases h
  · split at h
    · next hc => cases h; exact ho _ (by simp at hc; exact hc.2)
    · cases h
  · next hm =>
    split at h
    · cases h
      rw [hk hm]
      exact Nat.mod_lt _ (by decide)
    · cases h
  · split at h
    · next hc => cases h; exact ho _ (by simp at hc; exact hc.2)
    · cases h
  · split at h
    · next hc => cases h; exact ho _ (by simp at hc; exact hc.2)
    · cases h

theorem region_bounds (a : Word) :
    match regionOf a with
    | .rom0 => a.toNat ≤ 0x3FFF
    | .romx => 0x4000 ≤ a.toNat ∧ a.toNat ≤ 0x7FFF
    | .vram => 0x8000 ≤ a.toNat ∧ a.toNat ≤ 0x9FFF
    | .extRam => 0xA000 ≤ a.toNat ∧ a.toNat ≤ 0xBFFF
    | .wram => 0xC000 ≤ a.toNat ∧ a.toNat ≤ 0xDFFF
    | .echo => 0xE000 ≤ a.toNat ∧ a.toNat ≤ 0xFDFF
    | .oam => 0xFE00 ≤ a.toNat ∧ a.toNat ≤ 0xFE9F
    | .gap => 0xFEA0 ≤ a.toNat ∧ a.toNat ≤ 0xFEFF
    | .io => 0xFF00 ≤ a.toNat ∧ a.toNat ≤ 0xFF7F
    | .hram => 0xFF80 ≤ a.toNat ∧ a.toNat ≤ 0xFFFE
    | .ie => a.toNat = 0xFFFF := by
  have := a.isLt
  unfold regionOf
  split_ifs <;> simp only <;> omega

/-- Every store keeps every memory array in its canonical form. -/
theorem memWrite_wf (a : Word) (v : Byte) {s : State} (h : MemoryCanonical s) : MemoryCanonical (memWrite a v s) := by
  have hb := region_bounds a
  refine ⟨?_, by rw [memWrite_cart]; exact h.2⟩
  obtain ⟨⟨h1, h2, h3, h4, h5, h6, h7, h8⟩, hk⟩ := h
  rw [memWrite_cart]
  unfold memWrite
  split <;> rename_i hr <;> rw [hr] at hb <;> dsimp only at hb
  · exact ⟨h1, h2, h3, h4, h5, h6, h7, h8⟩
  · exact ⟨h1, h2, h3, h4, h5, h6, h7, h8⟩
  · exact ⟨h1, cellsSet_wf v h2 (by omega) (by omega), h3, h4, h5, h6, h7, h8⟩
  · unfold extRamWrite
    split
    · next p hp => exact ⟨h1, h2, cellsSet_wf _ h3 (by omega) (extRamCell_lt hk hp), h4, h5, h6, h7, h8⟩
    · exact ⟨h1, h2, h3, h4, h5, h6, h7, h8⟩
  · exact ⟨h1, h2, h3, cellsSet_wf v h4 (by omega) (by omega), h5, h6, h7, h8⟩
  · exact ⟨h1, h2, h3, cellsSet_wf v h4 (by omega) (by omega), h5, h6, h7, h8⟩
  · exact ⟨h1, h2, h3, h4, cellsSet_wf v h5 (by omega) (by omega), h6, h7, h8⟩
  · exact ⟨h1, h2, h3, h4, h5, h6, h7, h8⟩
  · unfold ioWrite
    split_ifs
    · rw [withTimer_mem]; exact ⟨h1, h2, h3, h4, h5, h6, h7, h8⟩
    · exact ⟨h1, h2, h3, h4, h5, h6, h7, h8⟩
    · exact ⟨h1, h2, h3, h4, h5, h6, h7, h8⟩
    · rw [withTimer_mem]; exact ⟨h1, h2, h3, h4, h5, h6, h7, h8⟩
    · exact ⟨h1, h2, h3, h4, h5, h6, h7, h8⟩
    · exact ⟨h1, h2, h3, h4, h5, cellsSet_wf v h6 (by omega) (by omega), h7,
        cellsSet_forall (p := fun k => isCoreIo k = false) v h8 (by simp [isCoreIo, *])⟩
  · exact ⟨h1, h2, h3, h4, h5, h6, cellsSet_wf v h7 (by omega) (by omega), h8⟩
  · exact ⟨h1, h2, h3, h4, h5, h6, h7, h8⟩

/-- The memory of `State.reset`, with nothing listed, is canonical. -/
theorem reset_memory_wf : Memory.wf State.reset.cart State.reset.mem := by
  refine ⟨?_, ?_, ?_, ?_, ?_, ?_, ?_, ?_⟩ <;> simp [State.reset, Cells.wf]

end Sys2Proof.Machine
end

