-- ==== Sys2Proof/Laws/Exec.lean ====
section
/-!
SUPPORT. What writing the flags leaves, and which shared operation runs each family of instructions: a statement about a family goes
through these and the shared operation, never through the instructions one by one.
-/

namespace Sys2Proof.Machine

open Sys2Proof

@[simp] theorem finish_eq (m : Nat) (s : State) : finish m s = .next { s with cycles := m } := rfl

/-- The flags written by name are the flags read, in their bits of F. -/
theorem setFlags_hasFlags (z n hf cy : Bool) (s : State) : HasFlags z n hf cy (setFlags ⟨z, n, hf, cy⟩ s) := by
  change flagsOfByte (byteOfFlags _) = _ ∧ (byteOfFlags _).toNat = _
  revert z n hf cy
  decide

theorem exec_ldReg (dst src : R8) (s : State) : exec (Families.ldReg dst src) s = loadReg dst src s := by
  cases dst <;> cases src <;> rfl

theorem exec_ldRegImm (dst : R8) (n : Byte) (s : State) : exec (Families.ldRegImm dst n) s = loadRegImm dst n s := by
  cases dst <;> rfl

theorem exec_ldRegMem (dst : R8) (s : State) : exec (Families.ldRegMem dst) s = loadRegMem dst s := by cases dst <;> rfl

theorem exec_ldMemReg (src : R8) (s : State) : exec (Families.ldMemReg src) s = storeMemReg src s := by cases src <;> rfl

theorem exec_ldAIndirect (p : R16Mem) (s : State) : exec (Families.ldAIndirect p) s = loadAIndirect p s := by cases p <;> rfl

theorem exec_ldIndirectA (p : R16Mem) (s : State) : exec (Families.ldIndirectA p) s = storeAIndirect p s := by cases p <;> rfl

theorem exec_ldPairImm (p : R16) (v : Word) (s : State) : exec (Families.ldPairImm p v) s = loadPairImm p v s := by
  cases p <;> rfl

theorem exec_push (p : R16Stk) (s : State) : exec (Families.push p) s = pushPair p s := by cases p <;> rfl

theorem exec_pop (p : R16Stk) (s : State) : exec (Families.pop p) s = popPair p s := by cases p <;> rfl

theorem exec_alu_reg (op : AluOp) (r : R8) (s : State) : exec (Families.alu op (.reg r)) s = aluReg op r s := by
  cases op <;> cases r <;> rfl

theorem exec_alu_memHl (op : AluOp) (s : State) : exec (Families.alu op .memHl) s = aluMem op s := by cases op <;> rfl

theorem exec_alu_imm (op : AluOp) (n : Byte) (s : State) : exec (Families.alu op (.imm n)) s = aluImm op n s := by
  cases op <;> rfl

theorem exec_inc_reg (r : R8) (s : State) : exec (Families.inc (.reg r)) s = incReg r s := by cases r <;> rfl

theorem exec_inc_memHl (s : State) : exec (Families.inc .memHl) s = incMem s := rfl

theorem exec_dec_reg (r : R8) (s : State) : exec (Families.dec (.reg r)) s = decReg r s := by cases r <;> rfl

theorem exec_dec_memHl (s : State) : exec (Families.dec .memHl) s = decMem s := rfl

theorem exec_addHl (p : R16) (s : State) : exec (Families.addHl p) s = addHl p s := by cases p <;> rfl

theorem exec_incPair (p : R16) (s : State) : exec (Families.incPair p) s = incPair p s := by cases p <;> rfl

theorem exec_decPair (p : R16) (s : State) : exec (Families.decPair p) s = decPair p s := by cases p <;> rfl

theorem exec_rotate (op : RotOp) (o : Operand8) (s : State) : exec (Families.rotate op o) s = rotateOperand op o s := by
  rcases o with r | _
  · cases op <;> cases r <;> rfl
  · cases op <;> rfl

theorem exec_bitTest (b : Fin 8) (o : Operand8) (s : State) : exec (Families.bitTest b o) s = testBit b.val o s := by
  rcases o with r | _
  · fin_cases b <;> cases r <;> rfl
  · fin_cases b <;> rfl

theorem exec_bitReset (b : Fin 8) (o : Operand8) (s : State) : exec (Families.bitReset b o) s = resetBit b.val o s := by
  rcases o with r | _
  · fin_cases b <;> cases r <;> rfl
  · fin_cases b <;> rfl

theorem exec_bitSet (b : Fin 8) (o : Operand8) (s : State) : exec (Families.bitSet b o) s = setBit b.val o s := by
  rcases o with r | _
  · fin_cases b <;> cases r <;> rfl
  · fin_cases b <;> rfl

theorem exec_jpIf (cc : Cond) (a : Word) (s : State) : exec (Families.jpIf cc a) s = jumpIf cc a s := by cases cc <;> rfl

theorem exec_jrIf (cc : Cond) (n : Byte) (s : State) : exec (Families.jrIf cc n) s = jumpRelativeIf cc n s := by cases cc <;> rfl

theorem exec_callIf (cc : Cond) (a : Word) (s : State) : exec (Families.callIf cc a) s = callIf cc a s := by cases cc <;> rfl

theorem exec_retIf (cc : Cond) (s : State) : exec (Families.retIf cc) s = returnIf cc s := by cases cc <;> rfl

theorem exec_rst (y : Fin 8) (s : State) : exec (Families.rst y) s = restart y.val s := by fin_cases y <;> rfl

end Sys2Proof.Machine
end

