-- ==== Sys2Proof/Laws/Effects.lean ====
section
/-!
SUPPORT. Said once, what an instruction can do: it raises UnimplementedOpcode, or it is HALT, DI, EI or RETI, or it only writes
registers, flags, PC, SP, memory and the reported M-cycles after its fetch (`Effects`). An invariant of `exec` is shown for these
few updates and follows for every instruction by `exec_cases`.
-/

namespace Sys2Proof.Machine

open Sys2Proof

/-- `Effects s t`: `t` comes from `s` by writes of registers, F, PC, SP, memory and the reported M-cycles. -/
inductive Effects (s : State) : State → Prop where
  | refl : Effects s s
  | pc {u : State} (v : Word) : Effects s u → Effects s (setPc v u)
  | sp {u : State} (v : Word) : Effects s u → Effects s (setSp v u)
  | r8 {u : State} (r : R8) (v : Byte) : Effects s u → Effects s (writeR8 r v u)
  | f {u : State} (v : Byte) : Effects s u → Effects s (writeF v u)
  | flags {u : State} (g : Flags) : Effects s u → Effects s (setFlags g u)
  | mem {u : State} (a : Word) (v : Byte) : Effects s u → Effects s (memWrite a v u)
  | cycles {u : State} (m : Nat) : Effects s u → Effects s { u with cycles := m }

/-- What no such write changes. -/
theorem Effects.keeps {s t : State} (h : Effects s t) :
    t.ime = s.ime ∧ t.imeDelay = s.imeDelay ∧ t.halted = s.halted ∧ t.haltBug = s.haltBug ∧ t.failure = s.failure ∧
      t.cart = s.cart := by
  induction h with
  | refl => exact ⟨rfl, rfl, rfl, rfl, rfl, rfl⟩
  | pc _ _ ih => exact ih
  | sp _ _ ih => exact ih
  | r8 r _ _ ih => cases r <;> exact ih
  | f _ _ ih => exact ih
  | flags _ _ ih => exact ih
  | mem a v _ ih =>
    rw [memWrite_ime, memWrite_imeDelay, memWrite_halted, memWrite_haltBug, memWrite_failure, memWrite_cart]
    exact ih
  | cycles _ _ ih => exact ih

/-- A property that every one of these writes keeps holds after all of them. -/
theorem Effects.preserves {P : State → Prop} (hpc : ∀ v u, P u → P (setPc v u)) (hsp : ∀ v u, P u → P (setSp v u))
    (hr8 : ∀ r v u, P u → P (writeR8 r v u)) (hf : ∀ v u, P u → P (writeF v u)) (hflags : ∀ g u, P u → P (setFlags g u))
    (hmem : ∀ a v u, P u → P (memWrite a v u)) (hcycles : ∀ (m : Nat) (u : State), P u → P { u with cycles := m })
    {s t : State} (h : Effects s t) (hs : P s) : P t := by
  induction h with
  | refl => exact hs
  | pc _ _ ih => exact hpc _ _ ih
  | sp _ _ ih => exact hsp _ _ ih
  | r8 _ _ _ ih => exact hr8 _ _ _ ih
  | f _ _ ih => exact hf _ _ ih
  | flags _ _ ih => exact hflags _ _ ih
  | mem _ _ _ ih => exact hmem _ _ _ ih
  | cycles _ _ ih => exact hcycles _ _ ih

theorem Effects.r16 {s u : State} (p : R16) (v : Word) (h : Effects s u) : Effects s (writeR16 p v u) := by
  cases p <;> unfold writeR16
  · exact .r8 _ _ (.r8 _ _ h)
  · exact .r8 _ _ (.r8 _ _ h)
  · exact .r8 _ _ (.r8 _ _ h)
  · exact .sp _ h

theorem Effects.r16Stk {s u : State} (p : R16Stk) (v : Word) (h : Effects s u) : Effects s (writeR16Stk p v u) := by
  cases p <;> unfold writeR16Stk
  · exact .r16 _ _ h
  · exact .r16 _ _ h
  · exact .r16 _ _ h
  · exact .r8 _ _ (.f _ h)

theorem Effects.word {s u : State} (a v : Word) (h : Effects s u) : Effects s (memWriteWord a v u) := .mem _ _ (.mem _ _ h)

theorem Effects.push {s u : State} (v : Word) (h : Effects s u) : Effects s (push16 v u) := .mem _ _ (.sp _ (.mem _ _ (.sp _ h)))

theorem Effects.operand {s u : State} (o : Operand8) (v : Byte) (h : Effects s u) : Effects s (writeOperand o v u) := by
  cases o <;> unfold writeOperand
  · exact .r8 _ _ h
  · exact .mem _ _ h

theorem Effects.indirect {s u : State} (p : R16Mem) (h : Effects s u) : Effects s (indirectAfter p u) := by
  cases p <;> unfold indirectAfter
  · exact h
  · exact h
  · exact .r16 _ _ h
  · exact .r16 _ _ h

/-- An instruction that only has these effects after its fetch. -/
abbrev Plain (r : Result) (s : State) : Prop := ∃ len t, 1 ≤ len ∧ r = .next t ∧ Effects (afterFetch len s) t

theorem plain_loadReg (dst src : R8) (s : State) : Plain (loadReg dst src s) s :=
  ⟨1, _, le_refl _, rfl, .cycles _ (.r8 _ _ .refl)⟩

theorem plain_loadRegImm (dst : R8) (n : Byte) (s : State) : Plain (loadRegImm dst n s) s :=
  ⟨2, _, by decide, rfl, .cycles _ (.r8 _ _ .refl)⟩

theorem plain_loadRegMem (dst : R8) (s : State) : Plain (loadRegMem dst s) s := ⟨1, _, le_refl _, rfl, .cycles _ (.r8 _ _ .refl)⟩

theorem plain_storeMemReg (r : R8) (s : State) : Plain (storeMemReg r s) s := ⟨1, _, le_refl _, rfl, .cycles _ (.mem _ _ .refl)⟩

theorem plain_storeMemImm (n : Byte) (s : State) : Plain (storeMemImm n s) s := ⟨2, _, by decide, rfl, .cycles _ (.mem _ _ .refl)⟩

theorem plain_loadAIndirect (p : R16Mem) (s : State) : Plain (loadAIndirect p s) s :=
  ⟨1, _, le_refl _, rfl, .cycles _ (.indirect _ (.r8 _ _ .refl))⟩

theorem plain_storeAIndirect (p : R16Mem) (s : State) : Plain (storeAIndirect p s) s :=
  ⟨1, _, le_refl _, rfl, .cycles _ (.indirect _ (.mem _ _ .refl))⟩

theorem plain_loadAFrom (a : Word) (len m : Nat) (hl : 1 ≤ len) (s : State) : Plain (loadAFrom a len m s) s :=
  ⟨len, _, hl, rfl, .cycles _ (.r8 _ _ .refl)⟩

theorem plain_storeATo (a : Word) (len m : Nat) (hl : 1 ≤ len) (s : State) : Plain (storeATo a len m s) s :=
  ⟨len, _, hl, rfl, .cycles _ (.mem _ _ .refl)⟩

theorem plain_loadPairImm (p : R16) (v : Word) (s : State) : Plain (loadPairImm p v s) s :=
  ⟨3, _, by decide, rfl, .cycles _ (.r16 _ _ .refl)⟩

theorem plain_storeSp (a : Word) (s : State) : Plain (storeSp a s) s := ⟨3, _, by decide, rfl, .cycles _ (.word _ _ .refl)⟩

theorem plain_loadSpHl (s : State) : Plain (loadSpHl s) s := ⟨1, _, le_refl _, rfl, .cycles _ (.sp _ .refl)⟩

theorem plain_pushPair (p : R16Stk) (s : State) : Plain (pushPair p s) s := ⟨1, _, le_refl _, rfl, .cycles _ (.push _ .refl)⟩

theorem plain_popPair (p : R16Stk) (s : State) : Plain (popPair p s) s :=
  ⟨1, _, le_refl _, rfl, .cycles _ (.r16Stk _ _ (.sp _ .refl))⟩

theorem plain_aluA (op : AluOp) (src : Byte) (len m : Nat) (hl : 1 ≤ len) (s : State) : Plain (aluA op src len m s) s :=
  ⟨len, _, hl, rfl, .cycles _ (.flags _ (.r8 _ _ .refl))⟩

theorem plain_aluReg (op : AluOp) (r : R8) (s : State) : Plain (aluReg op r s) s := plain_aluA _ _ _ _ (by decide) s

theorem plain_aluMem (op : AluOp) (s : State) : Plain (aluMem op s) s := plain_aluA _ _ _ _ (by decide) s

theorem plain_aluImm (op : AluOp) (n : Byte) (s : State) : Plain (aluImm op n s) s := plain_aluA _ _ _ _ (by decide) s

theorem plain_incReg (r : R8) (s : State) : Plain (incReg r s) s := ⟨1, _, le_refl _, rfl, .cycles _ (.flags _ (.r8 _ _ .refl))⟩

theorem plain_incMem (s : State) : Plain (incMem s) s := ⟨1, _, le_refl _, rfl, .cycles _ (.flags _ (.mem _ _ .refl))⟩

theorem plain_decReg (r : R8) (s : State) : Plain (decReg r s) s := ⟨1, _, le_refl _, rfl, .cycles _ (.flags _ (.r8 _ _ .refl))⟩

theorem plain_decMem (s : State) : Plain (decMem s) s := ⟨1, _, le_refl _, rfl, .cycles _ (.flags _ (.mem _ _ .refl))⟩

theorem plain_daaA (s : State) : Plain (daaA s) s := ⟨1, _, le_refl _, rfl, .cycles _ (.flags _ (.r8 _ _ .refl))⟩

theorem plain_cplA (s : State) : Plain (cplA s) s := ⟨1, _, le_refl _, rfl, .cycles _ (.flags _ (.r8 _ _ .refl))⟩

theorem plain_setCarry (s : State) : Plain (setCarry s) s := ⟨1, _, le_refl _, rfl, .cycles _ (.flags _ .refl)⟩

theorem plain_complementCarry (s : State) : Plain (complementCarry s) s := ⟨1, _, le_refl _, rfl, .cycles _ (.flags _ .refl)⟩

theorem plain_addHl (p : R16) (s : State) : Plain (addHl p s) s := ⟨1, _, le_refl _, rfl, .cycles _ (.flags _ (.r16 _ _ .refl))⟩

theorem plain_incPair (p : R16) (s : State) : Plain (incPair p s) s := ⟨1, _, le_refl _, rfl, .cycles _ (.r16 _ _ .refl)⟩

theorem plain_decPair (p : R16) (s : State) : Plain (decPair p s) s := ⟨1, _, le_refl _, rfl, .cycles _ (.r16 _ _ .refl)⟩

theorem plain_addSpImm (n : Byte) (s : State) : Plain (addSpImm n s) s :=
  ⟨2, _, by decide, rfl, .cycles _ (.flags _ (.sp _ .refl))⟩

theorem plain_loadHlSpImm (n : Byte) (s : State) : Plain (loadHlSpImm n s) s :=
  ⟨2, _, by decide, rfl, .cycles _ (.flags _ (.r16 _ _ .refl))⟩

theorem plain_rotateA (op : RotOp) (s : State) : Plain (rotateA op s) s :=
  ⟨1, _, le_refl _, rfl, .cycles _ (.flags _ (.r8 _ _ .refl))⟩

theorem plain_rotateOperand (op : RotOp) (o : Operand8) (s : State) : Plain (rotateOperand op o s) s :=
  ⟨2, _, by decide, rfl, .cycles _ (.flags _ (.operand _ _ .refl))⟩

theorem plain_testBit (b : Nat) (o : Operand8) (s : State) : Plain (testBit b o s) s :=
  ⟨2, _, by decide, rfl, .cycles _ (.flags _ .refl)⟩

theorem plain_resetBit (b : Nat) (o : Operand8) (s : State) : Plain (resetBit b o s) s :=
  ⟨2, _, by decide, rfl, .cycles _ (.operand _ _ .refl)⟩

theorem plain_setBit (b : Nat) (o : Operand8) (s : State) : Plain (setBit b o s) s :=
  ⟨2, _, by decide, rfl, .cycles _ (.operand _ _ .refl)⟩

theorem plain_extendedOp (op2 : Byte) (s : State) : Plain (extendedOp op2 s) s := by
  unfold extendedOp
  dsimp only
  split
  · exact plain_rotateOperand _ _ s
  · exact plain_testBit _ _ s
  · exact plain_resetBit _ _ s
  · exact plain_setBit _ _ s

theorem plain_jumpTo (a : Word) (s : State) : Plain (jumpTo a s) s := ⟨3, _, by decide, rfl, .cycles _ (.pc _ .refl)⟩

theorem plain_jumpIf (cc : Cond) (a : Word) (s : State) : Plain (jumpIf cc a s) s := by
  unfold jumpIf
  split
  · exact ⟨3, _, by decide, rfl, .cycles _ (.pc _ .refl)⟩
  · exact ⟨3, _, by decide, rfl, .cycles _ .refl⟩

theorem plain_jumpHl (s : State) : Plain (jumpHl s) s := ⟨1, _, le_refl _, rfl, .cycles _ (.pc _ .refl)⟩

theorem plain_jumpRelative (n : Byte) (s : State) : Plain (jumpRelative n s) s := ⟨2, _, by decide, rfl, .cycles _ (.pc _ .refl)⟩

theorem plain_jumpRelativeIf (cc : Cond) (n : Byte) (s : State) : Plain (jumpRelativeIf cc n s) s := by
  unfold jumpRelativeIf
  split
  · exact ⟨2, _, by decide, rfl, .cycles _ (.pc _ .refl)⟩
  · exact ⟨2, _, by decide, rfl, .cycles _ .refl⟩

theorem plain_callAlways (a : Word) (s : State) : Plain (callAlways a s) s :=
  ⟨3, _, by decide, rfl, .cycles _ (.pc _ (.push _ .refl))⟩

theorem plain_callIf (cc : Cond) (a : Word) (s : State) : Plain (callIf cc a s) s := by
  unfold callIf
  split
  · exact ⟨3, _, by decide, rfl, .cycles _ (.pc _ (.push _ .refl))⟩
  · exact ⟨3, _, by decide, rfl, .cycles _ .refl⟩

theorem plain_returnAlways (s : State) : Plain (returnAlways s) s := ⟨1, _, le_refl _, rfl, .cycles _ (.pc _ (.sp _ .refl))⟩

theorem plain_returnIf (cc : Cond) (s : State) : Plain (returnIf cc s) s := by
  unfold returnIf
  split
  · exact ⟨1, _, le_refl _, rfl, .cycles _ (.pc _ (.sp _ .refl))⟩
  · exact ⟨1, _, le_refl _, rfl, .cycles _ .refl⟩

theorem plain_restart (y : Nat) (s : State) : Plain (restart y s) s := ⟨1, _, le_refl _, rfl, .cycles _ (.pc _ (.push _ .refl))⟩

theorem plain_noOperation (s : State) : Plain (noOperation s) s := ⟨1, _, le_refl _, rfl, .cycles _ .refl⟩

/-- What an instruction can be. -/
inductive ExecCase (i : Instr) (s : State) : Prop where
  | raise (op : Byte) (hi : (i, op) ∈ Families.illegalOpcodes ∨ ∃ n, i = .stop n ∧ op = 0x10) (h : exec i s = raiseUnimplemented op s)
  | halt (h : i = .halt)
  | di (h : i = .di)
  | ei (h : i = .ei)
  | reti (h : i = .reti)
  | plain (h : Plain (exec i s) s)

/-- Every instruction is one of these. -/
theorem exec_cases (i : Instr) (s : State) : ExecCase i s :=
  match i with
  | .nop => .plain (plain_noOperation s)
  | .ldBcD16 v => .plain (plain_loadPairImm .bc v s)
  | .ldMemBcA => .plain (plain_storeAIndirect .bc s)
  | .incBc => .plain (plain_incPair .bc s)
  | .incB => .plain (plain_incReg .b s)
  | .decB => .plain (plain_decReg .b s)
  | .ldBD8 n => .plain (plain_loadRegImm .b n s)
  | .rlca => .plain (plain_rotateA .rlc s)
  | .ldMemA16Sp a => .plain (plain_storeSp a s)
  | .addHlBc => .plain (plain_addHl .bc s)
  | .ldAMemBc => .plain (plain_loadAIndirect .bc s)
  | .decBc => .plain (plain_decPair .bc s)
  | .incC => .plain (plain_incReg .c s)
  | .decC => .plain (plain_decReg .c s)
  | .ldCD8 n => .plain (plain_loadRegImm .c n s)
  | .rrca => .plain (plain_rotateA .rrc s)
  | .stop _ => .raise _ (.inr ⟨_, rfl, rfl⟩) rfl
  | .ldDeD16 v => .plain (plain_loadPairImm .de v s)
  | .ldMemDeA => .plain (plain_storeAIndirect .de s)
  | .incDe => .plain (plain_incPair .de s)
  | .incD => .plain (plain_incReg .d s)
  | .decD => .plain (plain_decReg .d s)
  | .ldDD8 n => .plain (plain_loadRegImm .d n s)
  | .rla => .plain (plain_rotateA .rl s)
  | .jrE8 n => .plain (plain_jumpRelative n s)
  | .addHlDe => .plain (plain_addHl .de s)
  | .ldAMemDe => .plain (plain_loadAIndirect .de s)
  | .decDe => .plain (plain_decPair .de s)
  | .incE => .plain (plain_incReg .e s)
  | .decE => .plain (plain_decReg .e s)
  | .ldED8 n => .plain (plain_loadRegImm .e n s)
  | .rra => .plain (plain_rotateA .rr s)
  | .jrNzE8 n => .plain (plain_jumpRelativeIf .nz n s)
  | .ldHlD16 v => .plain (plain_loadPairImm .hl v s)
  | .ldMemHlIncA => .plain (plain_storeAIndirect .hlInc s)
  | .incHl => .plain (plain_incPair .hl s)
  | .incH => .plain (plain_incReg .h s)
  | .decH => .plain (plain_decReg .h s)
  | .ldHD8 n => .plain (plain_loadRegImm .h n s)
  | .daa => .plain (plain_daaA s)
  | .jrZE8 n => .plain (plain_jumpRelativeIf .z n s)
  | .addHlHl => .plain (plain_addHl .hl s)
  | .ldAMemHlInc => .plain (plain_loadAIndirect .hlInc s)
  | .decHl => .plain (plain_decPair .hl s)
  | .incL => .plain (plain_incReg .l s)
  | .decL => .plain (plain_decReg .l s)
  | .ldLD8 n => .plain (plain_loadRegImm .l n s)
  | .cpl => .plain (plain_cplA s)
  | .jrNcE8 n => .plain (plain_jumpRelativeIf .nc n s)
  | .ldSpD16 v => .plain (plain_loadPairImm .sp v s)
  | .ldMemHlDecA => .plain (plain_storeAIndirect .hlDec s)
  | .incSp => .plain (plain_incPair .sp s)
  | .incMemHl => .plain (plain_incMem s)
  | .decMemHl => .plain (plain_decMem s)
  | .ldMemHlD8 n => .plain (plain_storeMemImm n s)
  | .scf => .plain (plain_setCarry s)
  | .jrCE8 n => .plain (plain_jumpRelativeIf .c n s)
  | .addHlSp => .plain (plain_addHl .sp s)
  | .ldAMemHlDec => .plain (plain_loadAIndirect .hlDec s)
  | .decSp => .plain (plain_decPair .sp s)
  | .incA => .plain (plain_incReg .a s)
  | .decA => .plain (plain_decReg .a s)
  | .ldAD8 n => .plain (plain_loadRegImm .a n s)
  | .ccf => .plain (plain_complementCarry s)
  | .ldBB => .plain (plain_loadReg .b .b s)
  | .ldBC => .plain (plain_loadReg .b .c s)
  | .ldBD => .plain (plain_loadReg .b .d s)
  | .ldBE => .plain (plain_loadReg .b .e s)
  | .ldBH => .plain (plain_loadReg .b .h s)
  | .ldBL => .plain (plain_loadReg .b .l s)
  | .ldBMemHl => .plain (plain_loadRegMem .b s)
  | .ldBA => .plain (plain_loadReg .b .a s)
  | .ldCB => .plain (plain_loadReg .c .b s)
  | .ldCC => .plain (plain_loadReg .c .c s)
  | .ldCD => .plain (plain_loadReg .c .d s)
  | .ldCE => .plain (plain_loadReg .c .e s)
  | .ldCH => .plain (plain_loadReg .c .h s)
  | .ldCL => .plain (plain_loadReg .c .l s)
  | .ldCMemHl => .plain (plain_loadRegMem .c s)
  | .ldCA => .plain (plain_loadReg .c .a s)
  | .ldDB => .plain (plain_loadReg .d .b s)
  | .ldDC => .plain (plain_loadReg .d .c s)
  | .ldDD => .plain (plain_loadReg .d .d s)
  | .ldDE => .plain (plain_loadReg .d .e s)
  | .ldDH => .plain (plain_loadReg .d .h s)
  | .ldDL => .plain (plain_loadReg .d .l s)
  | .ldDMemHl => .plain (plain_loadRegMem .d s)
  | .ldDA => .plain (plain_loadReg .d .a s)
  | .ldEB => .plain (plain_loadReg .e .b s)
  | .ldEC => .plain (plain_loadReg .e .c s)
  | .ldED => .plain (plain_loadReg .e .d s)
  | .ldEE => .plain (plain_loadReg .e .e s)
  | .ldEH => .plain (plain_loadReg .e .h s)
  | .ldEL => .plain (plain_loadReg .e .l s)
  | .ldEMemHl => .plain (plain_loadRegMem .e s)
  | .ldEA => .plain (plain_loadReg .e .a s)
  | .ldHB => .plain (plain_loadReg .h .b s)
  | .ldHC => .plain (plain_loadReg .h .c s)
  | .ldHD => .plain (plain_loadReg .h .d s)
  | .ldHE => .plain (plain_loadReg .h .e s)
  | .ldHH => .plain (plain_loadReg .h .h s)
  | .ldHL => .plain (plain_loadReg .h .l s)
  | .ldHMemHl => .plain (plain_loadRegMem .h s)
  | .ldHA => .plain (plain_loadReg .h .a s)
  | .ldLB => .plain (plain_loadReg .l .b s)
  | .ldLC => .plain (plain_loadReg .l .c s)
  | .ldLD => .plain (plain_loadReg .l .d s)
  | .ldLE => .plain (plain_loadReg .l .e s)
  | .ldLH => .plain (plain_loadReg .l .h s)
  | .ldLL => .plain (plain_loadReg .l .l s)
  | .ldLMemHl => .plain (plain_loadRegMem .l s)
  | .ldLA => .plain (plain_loadReg .l .a s)
  | .ldMemHlB => .plain (plain_storeMemReg .b s)
  | .ldMemHlC => .plain (plain_storeMemReg .c s)
  | .ldMemHlD => .plain (plain_storeMemReg .d s)
  | .ldMemHlE => .plain (plain_storeMemReg .e s)
  | .ldMemHlH => .plain (plain_storeMemReg .h s)
  | .ldMemHlL => .plain (plain_storeMemReg .l s)
  | .halt => .halt rfl
  | .ldMemHlA => .plain (plain_storeMemReg .a s)
  | .ldAB => .plain (plain_loadReg .a .b s)
  | .ldAC => .plain (plain_loadReg .a .c s)
  | .ldAD => .plain (plain_loadReg .a .d s)
  | .ldAE => .plain (plain_loadReg .a .e s)
  | .ldAH => .plain (plain_loadReg .a .h s)
  | .ldAL => .plain (plain_loadReg .a .l s)
  | .ldAMemHl => .plain (plain_loadRegMem .a s)
  | .ldAA => .plain (plain_loadReg .a .a s)
  | .addAB => .plain (plain_aluReg .add .b s)
  | .addAC => .plain (plain_aluReg .add .c s)
  | .addAD => .plain (plain_aluReg .add .d s)
  | .addAE => .plain (plain_aluReg .add .e s)
  | .addAH => .plain (plain_aluReg .add .h s)
  | .addAL => .plain (plain_aluReg .add .l s)
  | .addAMemHl => .plain (plain_aluMem .add s)
  | .addAA => .plain (plain_aluReg .add .a s)
  | .adcAB => .plain (plain_aluReg .adc .b s)
  | .adcAC => .plain (plain_aluReg .adc .c s)
  | .adcAD => .plain (plain_aluReg .adc .d s)
  | .adcAE => .plain (plain_aluReg .adc .e s)
  | .adcAH => .plain (plain_aluReg .adc .h s)
  | .adcAL => .plain (plain_aluReg .adc .l s)
  | .adcAMemHl => .plain (plain_aluMem .adc s)
  | .adcAA => .plain (plain_aluReg .adc .a s)
  | .subB => .plain (plain_aluReg .sub .b s)
  | .subC => .plain (plain_aluReg .sub .c s)
  | .subD => .plain (plain_aluReg .sub .d s)
  | .subE => .plain (plain_aluReg .sub .e s)
  | .subH => .plain (plain_aluReg .sub .h s)
  | .subL => .plain (plain_aluReg .sub .l s)
  | .subMemHl => .plain (plain_aluMem .sub s)
  | .subA => .plain (plain_aluReg .sub .a s)
  | .sbcAB => .plain (plain_aluReg .sbc .b s)
  | .sbcAC => .plain (plain_aluReg .sbc .c s)
  | .sbcAD => .plain (plain_aluReg .sbc .d s)
  | .sbcAE => .plain (plain_aluReg .sbc .e s)
  | .sbcAH => .plain (plain_aluReg .sbc .h s)
  | .sbcAL => .plain (plain_aluReg .sbc .l s)
  | .sbcAMemHl => .plain (plain_aluMem .sbc s)
  | .sbcAA => .plain (plain_aluReg .sbc .a s)
  | .andB => .plain (plain_aluReg .and .b s)
  | .andC => .plain (plain_aluReg .and .c s)
  | .andD => .plain (plain_aluReg .and .d s)
  | .andE => .plain (plain_aluReg .and .e s)
  | .andH => .plain (plain_aluReg .and .h s)
  | .andL => .plain (plain_aluReg .and .l s)
  | .andMemHl => .plain (plain_aluMem .and s)
  | .andA => .plain (plain_aluReg .and .a s)
  | .xorB => .plain (plain_aluReg .xor .b s)
  | .xorC => .plain (plain_aluReg .xor .c s)
  | .xorD => .plain (plain_aluReg .xor .d s)
  | .xorE => .plain (plain_aluReg .xor .e s)
  | .xorH => .plain (plain_aluReg .xor .h s)
  | .xorL => .plain (plain_aluReg .xor .l s)
  | .xorMemHl => .plain (plain_aluMem .xor s)
  | .xorA => .plain (plain_aluReg .xor .a s)
  | .orB => .plain (plain_aluReg .or .b s)
  | .orC => .plain (plain_aluReg .or .c s)
  | .orD => .plain (plain_aluReg .or .d s)
  | .orE => .plain (plain_aluReg .or .e s)
  | .orH => .plain (plain_aluReg .or .h s)
  | .orL => .plain (plain_aluReg .or .l s)
  | .orMemHl => .plain (plain_aluMem .or s)
  | .orA => .plain (plain_aluReg .or .a s)
  | .cpB => .plain (plain_aluReg .cp .b s)
  | .cpC => .plain (plain_aluReg .cp .c s)
  | .cpD => .plain (plain_aluReg .cp .d s)
  | .cpE => .plain (plain_aluReg .cp .e s)
  | .cpH => .plain (plain_aluReg .cp .h s)
  | .cpL => .plain (plain_aluReg .cp .l s)
  | .cpMemHl => .plain (plain_aluMem .cp s)
  | .cpA => .plain (plain_aluReg .cp .a s)
  | .retNz => .plain (plain_returnIf .nz s)
  | .popBc => .plain (plain_popPair .bc s)
  | .jpNzA16 a => .plain (plain_jumpIf .nz a s)
  | .jpA16 a => .plain (plain_jumpTo a s)
  | .callNzA16 a => .plain (plain_callIf .nz a s)
  | .pushBc => .plain (plain_pushPair .bc s)
  | .addAD8 n => .plain (plain_aluImm .add n s)
  | .rst00 => .plain (plain_restart 0 s)
  | .retZ => .plain (plain_returnIf .z s)
  | .ret => .plain (plain_returnAlways s)
  | .jpZA16 a => .plain (plain_jumpIf .z a s)
  | .prefixCb op2 => .plain (plain_extendedOp op2 s)
  | .callZA16 a => .plain (plain_callIf .z a s)
  | .callA16 a => .plain (plain_callAlways a s)
  | .adcAD8 n => .plain (plain_aluImm .adc n s)
  | .rst08 => .plain (plain_restart 1 s)
  | .retNc => .plain (plain_returnIf .nc s)
  | .popDe => .plain (plain_popPair .de s)
  | .jpNcA16 a => .plain (plain_jumpIf .nc a s)
  | .illegalD3 => .raise _ (.inl (by simp [Families.illegalOpcodes])) rfl
  | .callNcA16 a => .plain (plain_callIf .nc a s)
  | .pushDe => .plain (plain_pushPair .de s)
  | .subD8 n => .plain (plain_aluImm .sub n s)
  | .rst10 => .plain (plain_restart 2 s)
  | .retC => .plain (plain_returnIf .c s)
  | .reti => .reti rfl
  | .jpCA16 a => .plain (plain_jumpIf .c a s)
  | .illegalDB => .raise _ (.inl (by simp [Families.illegalOpcodes])) rfl
  | .callCA16 a => .plain (plain_callIf .c a s)
  | .illegalDD => .raise _ (.inl (by simp [Families.illegalOpcodes])) rfl
  | .sbcAD8 n => .plain (plain_aluImm .sbc n s)
  | .rst18 => .plain (plain_restart 3 s)
  | .ldhMemA8A _ => .plain (plain_storeATo _ _ _ (by decide) s)
  | .popHl => .plain (plain_popPair .hl s)
  | .ldhMemCA => .plain (plain_storeATo _ _ _ (by decide) s)
  | .illegalE3 => .raise _ (.inl (by simp [Families.illegalOpcodes])) rfl
  | .illegalE4 => .raise _ (.inl (by simp [Families.illegalOpcodes])) rfl
  | .pushHl => .plain (plain_pushPair .hl s)
  | .andD8 n => .plain (plain_aluImm .and n s)
  | .rst20 => .plain (plain_restart 4 s)
  | .addSpE8 n => .plain (plain_addSpImm n s)
  | .jpHl => .plain (plain_jumpHl s)
  | .ldMemA16A _ => .plain (plain_storeATo _ _ _ (by decide) s)
  | .illegalEB => .raise _ (.inl (by simp [Families.illegalOpcodes])) rfl
  | .illegalEC => .raise _ (.inl (by simp [Families.illegalOpcodes])) rfl
  | .illegalED => .raise _ (.inl (by simp [Families.illegalOpcodes])) rfl
  | .xorD8 n => .plain (plain_aluImm .xor n s)
  | .rst28 => .plain (plain_restart 5 s)
  | .ldhAMemA8 _ => .plain (plain_loadAFrom _ _ _ (by decide) s)
  | .popAf => .plain (plain_popPair .af s)
  | .ldhAMemC => .plain (plain_loadAFrom _ _ _ (by decide) s)
  | .di => .di rfl
  | .illegalF4 => .raise _ (.inl (by simp [Families.illegalOpcodes])) rfl
  | .pushAf => .plain (plain_pushPair .af s)
  | .orD8 n => .plain (plain_aluImm .or n s)
  | .rst30 => .plain (plain_restart 6 s)
  | .ldHlSpE8 n => .plain (plain_loadHlSpImm n s)
  | .ldSpHl => .plain (plain_loadSpHl s)
  | .ldAMemA16 _ => .plain (plain_loadAFrom _ _ _ (by decide) s)
  | .ei => .ei rfl
  | .illegalFC => .raise _ (.inl (by simp [Families.illegalOpcodes])) rfl
  | .illegalFD => .raise _ (.inl (by simp [Families.illegalOpcodes])) rfl
  | .cpD8 n => .plain (plain_aluImm .cp n s)
  | .rst38 => .plain (plain_restart 7 s)
  | .rlcB => .plain (plain_rotateOperand .rlc (.reg .b) s)
  | .rlcC => .plain (plain_rotateOperand .rlc (.reg .c) s)
  | .rlcD => .plain (plain_rotateOperand .rlc (.reg .d) s)
  | .rlcE => .plain (plain_rotateOperand .rlc (.reg .e) s)
  | .rlcH => .plain (plain_rotateOperand .rlc (.reg .h) s)
  | .rlcL => .plain (plain_rotateOperand .rlc (.reg .l) s)
  | .rlcMemHl => .plain (plain_rotateOperand .rlc .memHl s)
  | .rlcA => .plain (plain_rotateOperand .rlc (.reg .a) s)
  | .rrcB => .plain (plain_rotateOperand .rrc (.reg .b) s)
  | .rrcC => .plain (plain_rotateOperand .rrc (.reg .c) s)
  | .rrcD => .plain (plain_rotateOperand .rrc (.reg .d) s)
  | .rrcE => .plain (plain_rotateOperand .rrc (.reg .e) s)
  | .rrcH => .plain (plain_rotateOperand .rrc (.reg .h) s)
  | .rrcL => .plain (plain_rotateOperand .rrc (.reg .l) s)
  | .rrcMemHl => .plain (plain_rotateOperand .rrc .memHl s)
  | .rrcA => .plain (plain_rotateOperand .rrc (.reg .a) s)
  | .rlB => .plain (plain_rotateOperand .rl (.reg .b) s)
  | .rlC => .plain (plain_rotateOperand .rl (.reg .c) s)
  | .rlD => .plain (plain_rotateOperand .rl (.reg .d) s)
  | .rlE => .plain (plain_rotateOperand .rl (.reg .e) s)
  | .rlH => .plain (plain_rotateOperand .rl (.reg .h) s)
  | .rlL => .plain (plain_rotateOperand .rl (.reg .l) s)
  | .rlMemHl => .plain (plain_rotateOperand .rl .memHl s)
  | .rlA => .plain (plain_rotateOperand .rl (.reg .a) s)
  | .rrB => .plain (plain_rotateOperand .rr (.reg .b) s)
  | .rrC => .plain (plain_rotateOperand .rr (.reg .c) s)
  | .rrD => .plain (plain_rotateOperand .rr (.reg .d) s)
  | .rrE => .plain (plain_rotateOperand .rr (.reg .e) s)
  | .rrH => .plain (plain_rotateOperand .rr (.reg .h) s)
  | .rrL => .plain (plain_rotateOperand .rr (.reg .l) s)
  | .rrMemHl => .plain (plain_rotateOperand .rr .memHl s)
  | .rrA => .plain (plain_rotateOperand .rr (.reg .a) s)
  | .slaB => .plain (plain_rotateOperand .sla (.reg .b) s)
  | .slaC => .plain (plain_rotateOperand .sla (.reg .c) s)
  | .slaD => .plain (plain_rotateOperand .sla (.reg .d) s)
  | .slaE => .plain (plain_rotateOperand .sla (.reg .e) s)
  | .slaH => .plain (plain_rotateOperand .sla (.reg .h) s)
  | .slaL => .plain (plain_rotateOperand .sla (.reg .l) s)
  | .slaMemHl => .plain (plain_rotateOperand .sla .memHl s)
  | .slaA => .plain (plain_rotateOperand .sla (.reg .a) s)
  | .sraB => .plain (plain_rotateOperand .sra (.reg .b) s)
  | .sraC => .plain (plain_rotateOperand .sra (.reg .c) s)
  | .sraD => .plain (plain_rotateOperand .sra (.reg .d) s)
  | .sraE => .plain (plain_rotateOperand .sra (.reg .e) s)
  | .sraH => .plain (plain_rotateOperand .sra (.reg .h) s)
  | .sraL => .plain (plain_rotateOperand .sra (.reg .l) s)
  | .sraMemHl => .plain (plain_rotateOperand .sra .memHl s)
  | .sraA => .plain (plain_rotateOperand .sra (.reg .a) s)
  | .swapB => .plain (plain_rotateOperand .swap (.reg .b) s)
  | .swapC => .plain (plain_rotateOperand .swap (.reg .c) s)
  | .swapD => .plain (plain_rotateOperand .swap (.reg .d) s)
  | .swapE => .plain (plain_rotateOperand .swap (.reg .e) s)
  | .swapH => .plain (plain_rotateOperand .swap (.reg .h) s)
  | .swapL => .plain (plain_rotateOperand .swap (.reg .l) s)
  | .swapMemHl => .plain (plain_rotateOperand .swap .memHl s)
  | .swapA => .plain (plain_rotateOperand .swap (.reg .a) s)
  | .srlB => .plain (plain_rotateOperand .srl (.reg .b) s)
  | .srlC => .plain (plain_rotateOperand .srl (.reg .c) s)
  | .srlD => .plain (plain_rotateOperand .srl (.reg .d) s)
  | .srlE => .plain (plain_rotateOperand .srl (.reg .e) s)
  | .srlH => .plain (plain_rotateOperand .srl (.reg .h) s)
  | .srlL => .plain (plain_rotateOperand .srl (.reg .l) s)
  | .srlMemHl => .plain (plain_rotateOperand .srl .memHl s)
  | .srlA => .plain (plain_rotateOperand .srl (.reg .a) s)
  | .bit0B => .plain (plain_testBit 0 (.reg .b) s)
  | .bit0C => .plain (plain_testBit 0 (.reg .c) s)
  | .bit0D => .plain (plain_testBit 0 (.reg .d) s)
  | .bit0E => .plain (plain_testBit 0 (.reg .e) s)
  | .bit0H => .plain (plain_testBit 0 (.reg .h) s)
  | .bit0L => .plain (plain_testBit 0 (.reg .l) s)
  | .bit0MemHl => .plain (plain_testBit 0 .memHl s)
  | .bit0A => .plain (plain_testBit 0 (.reg .a) s)
  | .bit1B => .plain (plain_testBit 1 (.reg .b) s)
  | .bit1C => .plain (plain_testBit 1 (.reg .c) s)
  | .bit1D => .plain (plain_testBit 1 (.reg .d) s)
  | .bit1E => .plain (plain_testBit 1 (.reg .e) s)
  | .bit1H => .plain (plain_testBit 1 (.reg .h) s)
  | .bit1L => .plain (plain_testBit 1 (.reg .l) s)
  | .bit1MemHl => .plain (plain_testBit 1 .memHl s)
  | .bit1A => .plain (plain_testBit 1 (.reg .a) s)
  | .bit2B => .plain (plain_testBit 2 (.reg .b) s)
  | .bit2C => .plain (plain_testBit 2 (.reg .c) s)
  | .bit2D => .plain (plain_testBit 2 (.reg .d) s)
  | .bit2E => .plain (plain_testBit 2 (.reg .e) s)
  | .bit2H => .plain (plain_testBit 2 (.reg .h) s)
  | .bit2L => .plain (plain_testBit 2 (.reg .l) s)
  | .bit2MemHl => .plain (plain_testBit 2 .memHl s)
  | .bit2A => .plain (plain_testBit 2 (.reg .a) s)
  | .bit3B => .plain (plain_testBit 3 (.reg .b) s)
  | .bit3C => .plain (plain_testBit 3 (.reg .c) s)
  | .bit3D => .plain (plain_testBit 3 (.reg .d) s)
  | .bit3E => .plain (plain_testBit 3 (.reg .e) s)
  | .bit3H => .plain (plain_testBit 3 (.reg .h) s)
  | .bit3L => .plain (plain_testBit 3 (.reg .l) s)
  | .bit3MemHl => .plain (plain_testBit 3 .memHl s)
  | .bit3A => .plain (plain_testBit 3 (.reg .a) s)
  | .bit4B => .plain (plain_testBit 4 (.reg .b) s)
  | .bit4C => .plain (plain_testBit 4 (.reg .c) s)
  | .bit4D => .plain (plain_testBit 4 (.reg .d) s)
  | .bit4E => .plain (plain_testBit 4 (.reg .e) s)
  | .bit4H => .plain (plain_testBit 4 (.reg .h) s)
  | .bit4L => .plain (plain_testBit 4 (.reg .l) s)
  | .bit4MemHl => .plain (plain_testBit 4 .memHl s)
  | .bit4A => .plain (plain_testBit 4 (.reg .a) s)
  | .bit5B => .plain (plain_testBit 5 (.reg .b) s)
  | .bit5C => .plain (plain_testBit 5 (.reg .c) s)
  | .bit5D => .plain (plain_testBit 5 (.reg .d) s)
  | .bit5E => .plain (plain_testBit 5 (.reg .e) s)
  | .bit5H => .plain (plain_testBit 5 (.reg .h) s)
  | .bit5L => .plain (plain_testBit 5 (.reg .l) s)
  | .bit5MemHl => .plain (plain_testBit 5 .memHl s)
  | .bit5A => .plain (plain_testBit 5 (.reg .a) s)
  | .bit6B => .plain (plain_testBit 6 (.reg .b) s)
  | .bit6C => .plain (plain_testBit 6 (.reg .c) s)
  | .bit6D => .plain (plain_testBit 6 (.reg .d) s)
  | .bit6E => .plain (plain_testBit 6 (.reg .e) s)
  | .bit6H => .plain (plain_testBit 6 (.reg .h) s)
  | .bit6L => .plain (plain_testBit 6 (.reg .l) s)
  | .bit6MemHl => .plain (plain_testBit 6 .memHl s)
  | .bit6A => .plain (plain_testBit 6 (.reg .a) s)
  | .bit7B => .plain (plain_testBit 7 (.reg .b) s)
  | .bit7C => .plain (plain_testBit 7 (.reg .c) s)
  | .bit7D => .plain (plain_testBit 7 (.reg .d) s)
  | .bit7E => .plain (plain_testBit 7 (.reg .e) s)
  | .bit7H => .plain (plain_testBit 7 (.reg .h) s)
  | .bit7L => .plain (plain_testBit 7 (.reg .l) s)
  | .bit7MemHl => .plain (plain_testBit 7 .memHl s)
  | .bit7A => .plain (plain_testBit 7 (.reg .a) s)
  | .res0B => .plain (plain_resetBit 0 (.reg .b) s)
  | .res0C => .plain (plain_resetBit 0 (.reg .c) s)
  | .res0D => .plain (plain_resetBit 0 (.reg .d) s)
  | .res0E => .plain (plain_resetBit 0 (.reg .e) s)
  | .res0H => .plain (plain_resetBit 0 (.reg .h) s)
  | .res0L => .plain (plain_resetBit 0 (.reg .l) s)
  | .res0MemHl => .plain (plain_resetBit 0 .memHl s)
  | .res0A => .plain (plain_resetBit 0 (.reg .a) s)
  | .res1B => .plain (plain_resetBit 1 (.reg .b) s)
  | .res1C => .plain (plain_resetBit 1 (.reg .c) s)
  | .res1D => .plain (plain_resetBit 1 (.reg .d) s)
  | .res1E => .plain (plain_resetBit 1 (.reg .e) s)
  | .res1H => .plain (plain_resetBit 1 (.reg .h) s)
  | .res1L => .plain (plain_resetBit 1 (.reg .l) s)
  | .res1MemHl => .plain (plain_resetBit 1 .memHl s)
  | .res1A => .plain (plain_resetBit 1 (.reg .a) s)
  | .res2B => .plain (plain_resetBit 2 (.reg .b) s)
  | .res2C => .plain (plain_resetBit 2 (.reg .c) s)
  | .res2D => .plain (plain_resetBit 2 (.reg .d) s)
  | .res2E => .plain (plain_resetBit 2 (.reg .e) s)
  | .res2H => .plain (plain_resetBit 2 (.reg .h) s)
  | .res2L => .plain (plain_resetBit 2 (.reg .l) s)
  | .res2MemHl => .plain (plain_resetBit 2 .memHl s)
  | .res2A => .plain (plain_resetBit 2 (.reg .a) s)
  | .res3B => .plain (plain_resetBit 3 (.reg .b) s)
  | .res3C => .plain (plain_resetBit 3 (.reg .c) s)
  | .res3D => .plain (plain_resetBit 3 (.reg .d) s)
  | .res3E => .plain (plain_resetBit 3 (.reg .e) s)
  | .res3H => .plain (plain_resetBit 3 (.reg .h) s)
  | .res3L => .plain (plain_resetBit 3 (.reg .l) s)
  | .res3MemHl => .plain (plain_resetBit 3 .memHl s)
  | .res3A => .plain (plain_resetBit 3 (.reg .a) s)
  | .res4B => .plain (plain_resetBit 4 (.reg .b) s)
  | .res4C => .plain (plain_resetBit 4 (.reg .c) s)
  | .res4D => .plain (plain_resetBit 4 (.reg .d) s)
  | .res4E => .plain (plain_resetBit 4 (.reg .e) s)
  | .res4H => .plain (plain_resetBit 4 (.reg .h) s)
  | .res4L => .plain (plain_resetBit 4 (.reg .l) s)
  | .res4MemHl => .plain (plain_resetBit 4 .memHl s)
  | .res4A => .plain (plain_resetBit 4 (.reg .a) s)
  | .res5B => .plain (plain_resetBit 5 (.reg .b) s)
  | .res5C => .plain (plain_resetBit 5 (.reg .c) s)
  | .res5D => .plain (plain_resetBit 5 (.reg .d) s)
  | .res5E => .plain (plain_resetBit 5 (.reg .e) s)
  | .res5H => .plain (plain_resetBit 5 (.reg .h) s)
  | .res5L => .plain (plain_resetBit 5 (.reg .l) s)
  | .res5MemHl => .plain (plain_resetBit 5 .memHl s)
  | .res5A => .plain (plain_resetBit 5 (.reg .a) s)
  | .res6B => .plain (plain_resetBit 6 (.reg .b) s)
  | .res6C => .plain (plain_resetBit 6 (.reg .c) s)
  | .res6D => .plain (plain_resetBit 6 (.reg .d) s)
  | .res6E => .plain (plain_resetBit 6 (.reg .e) s)
  | .res6H => .plain (plain_resetBit 6 (.reg .h) s)
  | .res6L => .plain (plain_resetBit 6 (.reg .l) s)
  | .res6MemHl => .plain (plain_resetBit 6 .memHl s)
  | .res6A => .plain (plain_resetBit 6 (.reg .a) s)
  | .res7B => .plain (plain_resetBit 7 (.reg .b) s)
  | .res7C => .plain (plain_resetBit 7 (.reg .c) s)
  | .res7D => .plain (plain_resetBit 7 (.reg .d) s)
  | .res7E => .plain (plain_resetBit 7 (.reg .e) s)
  | .res7H => .plain (plain_resetBit 7 (.reg .h) s)
  | .res7L => .plain (plain_resetBit 7 (.reg .l) s)
  | .res7MemHl => .plain (plain_resetBit 7 .memHl s)
  | .res7A => .plain (plain_resetBit 7 (.reg .a) s)
  | .set0B => .plain (plain_setBit 0 (.reg .b) s)
  | .set0C => .plain (plain_setBit 0 (.reg .c) s)
  | .set0D => .plain (plain_setBit 0 (.reg .d) s)
  | .set0E => .plain (plain_setBit 0 (.reg .e) s)
  | .set0H => .plain (plain_setBit 0 (.reg .h) s)
  | .set0L => .plain (plain_setBit 0 (.reg .l) s)
  | .set0MemHl => .plain (plain_setBit 0 .memHl s)
  | .set0A => .plain (plain_setBit 0 (.reg .a) s)
  | .set1B => .plain (plain_setBit 1 (.reg .b) s)
  | .set1C => .plain (plain_setBit 1 (.reg .c) s)
  | .set1D => .plain (plain_setBit 1 (.reg .d) s)
  | .set1E => .plain (plain_setBit 1 (.reg .e) s)
  | .set1H => .plain (plain_setBit 1 (.reg .h) s)
  | .set1L => .plain (plain_setBit 1 (.reg .l) s)
  | .set1MemHl => .plain (plain_setBit 1 .memHl s)
  | .set1A => .plain (plain_setBit 1 (.reg .a) s)
  | .set2B => .plain (plain_setBit 2 (.reg .b) s)
  | .set2C => .plain (plain_setBit 2 (.reg .c) s)
  | .set2D => .plain (plain_setBit 2 (.reg .d) s)
  | .set2E => .plain (plain_setBit 2 (.reg .e) s)
  | .set2H => .plain (plain_setBit 2 (.reg .h) s)
  | .set2L => .plain (plain_setBit 2 (.reg .l) s)
  | .set2MemHl => .plain (plain_setBit 2 .memHl s)
  | .set2A => .plain (plain_setBit 2 (.reg .a) s)
  | .set3B => .plain (plain_setBit 3 (.reg .b) s)
  | .set3C => .plain (plain_setBit 3 (.reg .c) s)
  | .set3D => .plain (plain_setBit 3 (.reg .d) s)
  | .set3E => .plain (plain_setBit 3 (.reg .e) s)
  | .set3H => .plain (plain_setBit 3 (.reg .h) s)
  | .set3L => .plain (plain_setBit 3 (.reg .l) s)
  | .set3MemHl => .plain (plain_setBit 3 .memHl s)
  | .set3A => .plain (plain_setBit 3 (.reg .a) s)
  | .set4B => .plain (plain_setBit 4 (.reg .b) s)
  | .set4C => .plain (plain_setBit 4 (.reg .c) s)
  | .set4D => .plain (plain_setBit 4 (.reg .d) s)
  | .set4E => .plain (plain_setBit 4 (.reg .e) s)
  | .set4H => .plain (plain_setBit 4 (.reg .h) s)
  | .set4L => .plain (plain_setBit 4 (.reg .l) s)
  | .set4MemHl => .plain (plain_setBit 4 .memHl s)
  | .set4A => .plain (plain_setBit 4 (.reg .a) s)
  | .set5B => .plain (plain_setBit 5 (.reg .b) s)
  | .set5C => .plain (plain_setBit 5 (.reg .c) s)
  | .set5D => .plain (plain_setBit 5 (.reg .d) s)
  | .set5E => .plain (plain_setBit 5 (.reg .e) s)
  | .set5H => .plain (plain_setBit 5 (.reg .h) s)
  | .set5L => .plain (plain_setBit 5 (.reg .l) s)
  | .set5MemHl => .plain (plain_setBit 5 .memHl s)
  | .set5A => .plain (plain_setBit 5 (.reg .a) s)
  | .set6B => .plain (plain_setBit 6 (.reg .b) s)
  | .set6C => .plain (plain_setBit 6 (.reg .c) s)
  | .set6D => .plain (plain_setBit 6 (.reg .d) s)
  | .set6E => .plain (plain_setBit 6 (.reg .e) s)
  | .set6H => .plain (plain_setBit 6 (.reg .h) s)
  | .set6L => .plain (plain_setBit 6 (.reg .l) s)
  | .set6MemHl => .plain (plain_setBit 6 .memHl s)
  | .set6A => .plain (plain_setBit 6 (.reg .a) s)
  | .set7B => .plain (plain_setBit 7 (.reg .b) s)
  | .set7C => .plain (plain_setBit 7 (.reg .c) s)
  | .set7D => .plain (plain_setBit 7 (.reg .d) s)
  | .set7E => .plain (plain_setBit 7 (.reg .e) s)
  | .set7H => .plain (plain_setBit 7 (.reg .h) s)
  | .set7L => .plain (plain_setBit 7 (.reg .l) s)
  | .set7MemHl => .plain (plain_setBit 7 .memHl s)
  | .set7A => .plain (plain_setBit 7 (.reg .a) s)

end Sys2Proof.Machine
end

