-- ==== Sys2Proof/Laws/Step.lean ====
section
/-!
SUPPORT. The laws of the step: what advancing the timer does to the state, interrupt entry, and, said once, what a step can do
(`step_cases`). A property kept by the few updates of `step_preserves` is kept by every step.
-/

namespace Sys2Proof.Machine

open Sys2Proof

/-! ## The shared operations -/

/-- All that a timer operation's result changes. -/
theorem withTimer_eq (r : Timer × Bool) (s : State) :
    withTimer r s = { s with timer := r.1, iflag := if r.2 then s.iflag ||| 0b00100#5 else s.iflag } := by
  unfold withTimer requestInterrupt
  cases r.2 <;> simp

/-- All that an advance of the timer changes. -/
theorem timerAdvance_eq (n : Nat) (s : State) :
    timerAdvance n s =
      { s with
        timer := (timerRun n s.timer).1
        iflag := if (timerRun n s.timer).2 then s.iflag ||| 0b00100#5 else s.iflag } :=
  withTimer_eq _ s

@[simp] theorem memWriteWord_regs (a v : Word) (s : State) : (memWriteWord a v s).regs = s.regs := by simp [memWriteWord]

/-- The registers after a push: SP alone changes. -/
theorem push16_regs (v : Word) (s : State) : (push16 v s).regs = { s.regs with sp := s.regs.sp - 2 } := by
  have h : (push16 v s).regs = { s.regs with sp := (push16 v s).regs.sp } := by simp [push16, setSp]
  rw [h, push16_sp]

/-- The arbiter's choice among pending interrupts is pending, and no lower source is. -/
theorem lowestSetBit_spec :
    ∀ p : BitVec 5, p ≠ 0 →
      ∃ k : Fin 5, lowestSetBit p = k.val ∧ p.getLsbD k.val = true ∧ ∀ j : Fin 5, j.val < k.val → p.getLsbD j.val = false := by
  decide

/-- The end of a step is the interrupt check after the timer's clocks and the countdown, for every value of the countdown. -/
theorem endOfStep_eq (t : State) : endOfStep t = interruptCheck (beforeCheck t) := by
  unfold endOfStep beforeCheck flagsAfterClocks imeCountdown
  rw [timerAdvance_eq]
  dsimp only
  split_ifs <;> simp_all

/-- The interrupt check with nothing pending. -/
theorem interruptCheck_none {t : State} (h : t.ie &&& t.iflag = 0) : interruptCheck t = t := if_pos h

/-- The interrupt check with an interrupt pending and IME clear only wakes the CPU. -/
theorem interruptCheck_wakes {t : State} (h : t.ie &&& t.iflag ≠ 0) (off : t.ime = false) :
    interruptCheck t = { t with halted := false } := by
  unfold interruptCheck pendingInterrupts
  rw [if_neg h, if_neg (by simp [off])]

/-- The interrupt check with an interrupt pending and IME set services a pending source with no lower one pending. -/
theorem interruptCheck_services {t : State} (h : t.ie &&& t.iflag ≠ 0) (on : t.ime = true) :
    ∃ k : Fin 5, (t.ie &&& t.iflag).getLsbD k.val = true ∧ (∀ j, j < k.val → (t.ie &&& t.iflag).getLsbD j = false) ∧
      interruptCheck t = service k.val { t with halted := false } := by
  obtain ⟨k, hk, pending, lowest⟩ := lowestSetBit_spec _ h
  refine ⟨k, pending, fun j hj => lowest ⟨j, hj.trans k.isLt⟩ hj, ?_⟩
  unfold interruptCheck pendingInterrupts
  rw [if_neg h, if_pos on, hk]

/-- HALT always answers. -/
theorem haltCpu_cases (s : State) :
    (s.ime = false ∧ pendingInterrupts s ≠ 0 ∧ haltCpu s = .next { afterFetch 1 s with haltBug := true, cycles := 1 }) ∨
      (¬(s.ime = false ∧ pendingInterrupts s ≠ 0) ∧ haltCpu s = .next { afterFetch 1 s with halted := true, cycles := 1 }) := by
  unfold haltCpu
  split
  · next h => simp only [Bool.and_eq_true, Bool.not_eq_true', bne_iff_ne] at h; exact .inl ⟨h.1, h.2, rfl⟩
  · next h => simp only [Bool.and_eq_true, Bool.not_eq_true', bne_iff_ne] at h; exact .inr ⟨h, rfl⟩

/-- EI always answers. -/
theorem enableInterrupts_cases (s : State) :
    (s.ime = false ∧ s.imeDelay = 0 ∧ enableInterrupts s = .next { afterFetch 1 s with imeDelay := 2, cycles := 1 }) ∨
      (¬(s.ime = false ∧ s.imeDelay = 0) ∧ enableInterrupts s = .next { afterFetch 1 s with cycles := 1 }) := by
  unfold enableInterrupts
  split
  · next h => simp only [Bool.and_eq_true, Bool.not_eq_true', beq_iff_eq] at h; exact .inl ⟨h.1, h.2, rfl⟩
  · next h => simp only [Bool.and_eq_true, Bool.not_eq_true', beq_iff_eq] at h; exact .inr ⟨h, rfl⟩

/-! ## What a step can do -/

/-- A step that answers a next state had no failure latched, and is the halted step, or the instruction with the end of the step, or
an instruction that failed. -/
theorem step_cases {s t : State} (h : step s = .next t) :
    s.failure = none ∧
      ((s.halted = true ∧ t = haltedStep s) ∨
        (s.halted = false ∧ ∃ u, exec (fetchInstr s) s = .next u ∧
          ((u.failure = none ∧ t = endOfStep u) ∨ (u.failure ≠ none ∧ t = u)))) := by
  unfold step at h
  split at h
  · cases h
  · next hf =>
    refine ⟨hf, ?_⟩
    split at h
    · next hh => cases h; exact .inl ⟨hh, rfl⟩
    · next hh =>
      refine .inr ⟨by simpa using hh, ?_⟩
      unfold completeStep at h
      split at h
      · next u hu =>
        refine ⟨u, hu, ?_⟩
        split at h
        · next hq => cases h; exact .inr ⟨Option.isSome_iff_ne_none.mp hq, rfl⟩
        · next hq => cases h; exact .inl ⟨by simpa using hq, rfl⟩
      · cases h
      · cases h

/-- A property of the memory, the cartridge and the bank registers that every store keeps is kept by every step. -/
theorem step_preserves {P : State → Prop}
    (hsame : ∀ s t : State, t.mem = s.mem → t.cart = s.cart → t.mbc = s.mbc → P s → P t)
    (hstore : ∀ a v s, P s → P (memWrite a v s)) {s t : State} (hs : P s) (h : step s = .next t) : P t := by
  have hpush : ∀ v s, P s → P (push16 v s) := fun v s h =>
    hstore _ _ _ (hsame (memWrite _ _ (setSp _ s)) _ rfl rfl rfl (hstore _ _ _ (hsame s _ rfl rfl rfl h)))
  have hadvance : ∀ n s, P s → P (timerAdvance n s) := by
    intro n s h
    rw [timerAdvance_eq]
    exact hsame s _ rfl rfl rfl h
  have hend : ∀ s, P s → P (endOfStep s) := by
    intro s h
    rw [endOfStep_eq]
    have h2 : P (beforeCheck s) := hsame s _ rfl rfl rfl h
    generalize beforeCheck s = w at h2
    unfold interruptCheck
    split_ifs
    · exact h2
    · unfold service
      refine hsame (timerAdvance 20 (enterInterrupt _ _)) _ rfl rfl rfl (hadvance _ _ ?_)
      exact hsame (push16 _ _) _ rfl rfl rfl (hpush _ _ (hsame w _ rfl rfl rfl h2))
    · exact hsame w _ rfl rfl rfl h2
  have hexec : ∀ i u, exec i s = .next u → P u := by
    intro i u hu
    rcases exec_cases i s with ⟨op, _, e⟩ | e | e | e | e | ⟨len, t, _, e, he⟩
    · rw [e] at hu; cases hu; exact hsame s _ rfl rfl rfl hs
    · subst e
      rcases haltCpu_cases s with ⟨_, _, e⟩ | ⟨_, e⟩ <;> cases e.symm.trans hu <;> exact hsame s _ rfl rfl rfl hs
    · subst e; cases hu; exact hsame s _ rfl rfl rfl hs
    · subst e
      rcases enableInterrupts_cases s with ⟨_, _, e⟩ | ⟨_, e⟩ <;> cases e.symm.trans hu <;> exact hsame s _ rfl rfl rfl hs
    · subst e; cases hu; exact hsame s _ rfl rfl rfl hs
    · rw [e] at hu
      cases hu
      exact he.preserves (fun _ u h => hsame u _ rfl rfl rfl h) (fun _ u h => hsame u _ rfl rfl rfl h)
        (fun r _ u h => by cases r <;> exact hsame u _ rfl rfl rfl h) (fun _ u h => hsame u _ rfl rfl rfl h)
        (fun _ u h => hsame u _ rfl rfl rfl h) hstore (fun _ u h => hsame u _ rfl rfl rfl h) (hsame s _ rfl rfl rfl hs)
  obtain ⟨_, ⟨_, rfl⟩ | ⟨_, u, hu, ⟨_, rfl⟩ | ⟨_, rfl⟩⟩⟩ := step_cases h
  · exact hend _ (hsame s _ rfl rfl rfl hs)
  · exact hend _ (hexec _ _ hu)
  · exact hexec _ _ hu

end Sys2Proof.Machine
end

