-- ==== Sys2Proof/Tests/Slice0.lean ====
section
/-!
SUPPORT. The model's own tests: the smoke test of `wellFormed`; every row of spec/opcode_table.json decoded from words written out
from the encodings; one-step tests whose results come from 95_test_vectors.md (each names its vector); and for every statement that
has hypotheses a witness that meets them, each clause at a boundary. A free value takes part in no expected result.
-/

namespace Sys2Proof.Tests

open Sys2Proof Sys2Proof.Machine Sys2Proof.Statements

/-! ## Well-formedness -/

/-- The one check refuses the one ill-formed term, the bare prefix. -/
theorem test_wellFormed_refuses_the_bare_prefix : wellFormed (.prefixCb 0x00) = false := by decide

theorem test_wellFormed_accepts_an_extended_row : wellFormed .rlcB = true := by decide

theorem test_wellFormed_accepts_an_operand_of_all_ones : wellFormed (.ldMemA16Sp 0xFFFF) = true := by decide

/-! ## Decoding -/

/-- The instruction that some bytes are, if they are one and no byte is left over. -/
def decoded (bs : List Byte) : Option Instr :=
  match decode bs with
  | .ok (i, []) => some i
  | .ok (_, _ :: _) => none
  | .error .truncated => none

theorem test_decode_truncated_word : decoded [0xC3, 0x00] = none := by decide

theorem test_decode_no_bytes : decoded [] = none := by decide

theorem test_decode_prefix_alone_is_truncated : decoded [0xCB] = none := by decide

/-- The table numbers the operand word from the opcode's byte on: the high byte of the word comes last. -/
theorem test_decodeTableWord_operand_word : decodeTableWord 24 0x1234C3 = some (.jpA16 0x1234) := by decide

theorem test_decodeTableWord_extended_row : decodeTableWord 16 0xCB7C = some .bit7H := by decide

theorem test_decodeTableWord_short_word : decodeTableWord 8 0x06 = some (.ldBD8 0x00) := by decide

theorem test_decode_primary_row_0 :
    ([
      [0b00000000], [0b00000001, 0x34, 0x12], [0b00000010], [0b00000011], [0b00000100], [0b00000101], [0b00000110, 0x9C],
      [0b00000111], [0b00001000, 0x34, 0x12], [0b00001001], [0b00001010], [0b00001011], [0b00001100], [0b00001101],
      [0b00001110, 0x9C], [0b00001111]] : List (List Byte)).map decoded = ([
      .nop, .ldBcD16 0x1234, .ldMemBcA, .incBc, .incB, .decB, .ldBD8 0x9C, .rlca, .ldMemA16Sp 0x1234, .addHlBc, .ldAMemBc,
      .decBc, .incC, .decC, .ldCD8 0x9C, .rrca] : List Instr).map some := by
  decide

theorem test_decode_primary_row_1 :
    ([
      [0b00010000, 0x9C], [0b00010001, 0x34, 0x12], [0b00010010], [0b00010011], [0b00010100], [0b00010101],
      [0b00010110, 0x9C], [0b00010111], [0b00011000, 0x9C], [0b00011001], [0b00011010], [0b00011011], [0b00011100],
      [0b00011101], [0b00011110, 0x9C], [0b00011111]] : List (List Byte)).map decoded = ([
      .stop 0x9C, .ldDeD16 0x1234, .ldMemDeA, .incDe, .incD, .decD, .ldDD8 0x9C, .rla, .jrE8 0x9C, .addHlDe, .ldAMemDe,
      .decDe, .incE, .decE, .ldED8 0x9C, .rra] : List Instr).map some := by
  decide

theorem test_decode_primary_row_2 :
    ([
      [0b00100000, 0x9C], [0b00100001, 0x34, 0x12], [0b00100010], [0b00100011], [0b00100100], [0b00100101],
      [0b00100110, 0x9C], [0b00100111], [0b00101000, 0x9C], [0b00101001], [0b00101010], [0b00101011], [0b00101100],
      [0b00101101], [0b00101110, 0x9C], [0b00101111]] : List (List Byte)).map decoded = ([
      .jrNzE8 0x9C, .ldHlD16 0x1234, .ldMemHlIncA, .incHl, .incH, .decH, .ldHD8 0x9C, .daa, .jrZE8 0x9C, .addHlHl,
      .ldAMemHlInc, .decHl, .incL, .decL, .ldLD8 0x9C, .cpl] : List Instr).map some := by
  decide

theorem test_decode_primary_row_3 :
    ([
      [0b00110000, 0x9C], [0b00110001, 0x34, 0x12], [0b00110010], [0b00110011], [0b00110100], [0b00110101],
      [0b00110110, 0x9C], [0b00110111], [0b00111000, 0x9C], [0b00111001], [0b00111010], [0b00111011], [0b00111100],
      [0b00111101], [0b00111110, 0x9C], [0b00111111]] : List (List Byte)).map decoded = ([
      .jrNcE8 0x9C, .ldSpD16 0x1234, .ldMemHlDecA, .incSp, .incMemHl, .decMemHl, .ldMemHlD8 0x9C, .scf, .jrCE8 0x9C,
      .addHlSp, .ldAMemHlDec, .decSp, .incA, .decA, .ldAD8 0x9C, .ccf] : List Instr).map some := by
  decide

theorem test_decode_primary_row_4 :
    ([
      [0b01000000], [0b01000001], [0b01000010], [0b01000011], [0b01000100], [0b01000101], [0b01000110], [0b01000111],
      [0b01001000], [0b01001001], [0b01001010], [0b01001011], [0b01001100], [0b01001101], [0b01001110], [0b01001111]] : List (List Byte)).map decoded = ([
      .ldBB, .ldBC, .ldBD, .ldBE, .ldBH, .ldBL, .ldBMemHl, .ldBA, .ldCB, .ldCC, .ldCD, .ldCE, .ldCH, .ldCL, .ldCMemHl, .ldCA] : List Instr).map some := by
  decide

theorem test_decode_primary_row_5 :
    ([
      [0b01010000], [0b01010001], [0b01010010], [0b01010011], [0b01010100], [0b01010101], [0b01010110], [0b01010111],
      [0b01011000], [0b01011001], [0b01011010], [0b01011011], [0b01011100], [0b01011101], [0b01011110], [0b01011111]] : List (List Byte)).map decoded = ([
      .ldDB, .ldDC, .ldDD, .ldDE, .ldDH, .ldDL, .ldDMemHl, .ldDA, .ldEB, .ldEC, .ldED, .ldEE, .ldEH, .ldEL, .ldEMemHl, .ldEA] : List Instr).map some := by
  decide

theorem test_decode_primary_row_6 :
    ([
      [0b01100000], [0b01100001], [0b01100010], [0b01100011], [0b01100100], [0b01100101], [0b01100110], [0b01100111],
      [0b01101000], [0b01101001], [0b01101010], [0b01101011], [0b01101100], [0b01101101], [0b01101110], [0b01101111]] : List (List Byte)).map decoded = ([
      .ldHB, .ldHC, .ldHD, .ldHE, .ldHH, .ldHL, .ldHMemHl, .ldHA, .ldLB, .ldLC, .ldLD, .ldLE, .ldLH, .ldLL, .ldLMemHl, .ldLA] : List Instr).map some := by
  decide

theorem test_decode_primary_row_7 :
    ([
      [0b01110000], [0b01110001], [0b01110010], [0b01110011], [0b01110100], [0b01110101], [0b01110110], [0b01110111],
      [0b01111000], [0b01111001], [0b01111010], [0b01111011], [0b01111100], [0b01111101], [0b01111110], [0b01111111]] : List (List Byte)).map decoded = ([
      .ldMemHlB, .ldMemHlC, .ldMemHlD, .ldMemHlE, .ldMemHlH, .ldMemHlL, .halt, .ldMemHlA, .ldAB, .ldAC, .ldAD, .ldAE, .ldAH,
      .ldAL, .ldAMemHl, .ldAA] : List Instr).map some := by
  decide

theorem test_decode_primary_row_8 :
    ([
      [0b10000000], [0b10000001], [0b10000010], [0b10000011], [0b10000100], [0b10000101], [0b10000110], [0b10000111],
      [0b10001000], [0b10001001], [0b10001010], [0b10001011], [0b10001100], [0b10001101], [0b10001110], [0b10001111]] : List (List Byte)).map decoded = ([
      .addAB, .addAC, .addAD, .addAE, .addAH, .addAL, .addAMemHl, .addAA, .adcAB, .adcAC, .adcAD, .adcAE, .adcAH, .adcAL,
      .adcAMemHl, .adcAA] : List Instr).map some := by
  decide

theorem test_decode_primary_row_9 :
    ([
      [0b10010000], [0b10010001], [0b10010010], [0b10010011], [0b10010100], [0b10010101], [0b10010110], [0b10010111],
      [0b10011000], [0b10011001], [0b10011010], [0b10011011], [0b10011100], [0b10011101], [0b10011110], [0b10011111]] : List (List Byte)).map decoded = ([
      .subB, .subC, .subD, .subE, .subH, .subL, .subMemHl, .subA, .sbcAB, .sbcAC, .sbcAD, .sbcAE, .sbcAH, .sbcAL, .sbcAMemHl,
      .sbcAA] : List Instr).map some := by
  decide

theorem test_decode_primary_row_A :
    ([
      [0b10100000], [0b10100001], [0b10100010], [0b10100011], [0b10100100], [0b10100101], [0b10100110], [0b10100111],
      [0b10101000], [0b10101001], [0b10101010], [0b10101011], [0b10101100], [0b10101101], [0b10101110], [0b10101111]] : List (List Byte)).map decoded = ([
      .andB, .andC, .andD, .andE, .andH, .andL, .andMemHl, .andA, .xorB, .xorC, .xorD, .xorE, .xorH, .xorL, .xorMemHl, .xorA] : List Instr).map some := by
  decide

theorem test_decode_primary_row_B :
    ([
      [0b10110000], [0b10110001], [0b10110010], [0b10110011], [0b10110100], [0b10110101], [0b10110110], [0b10110111],
      [0b10111000], [0b10111001], [0b10111010], [0b10111011], [0b10111100], [0b10111101], [0b10111110], [0b10111111]] : List (List Byte)).map decoded = ([
      .orB, .orC, .orD, .orE, .orH, .orL, .orMemHl, .orA, .cpB, .cpC, .cpD, .cpE, .cpH, .cpL, .cpMemHl, .cpA] : List Instr).map some := by
  decide

theorem test_decode_primary_row_C :
    ([
      [0b11000000], [0b11000001], [0b11000010, 0x34, 0x12], [0b11000011, 0x34, 0x12], [0b11000100, 0x34, 0x12], [0b11000101],
      [0b11000110, 0x9C], [0b11000111], [0b11001000], [0b11001001], [0b11001010, 0x34, 0x12], [0b11001100, 0x34, 0x12],
      [0b11001101, 0x34, 0x12], [0b11001110, 0x9C], [0b11001111]] : List (List Byte)).map decoded = ([
      .retNz, .popBc, .jpNzA16 0x1234, .jpA16 0x1234, .callNzA16 0x1234, .pushBc, .addAD8 0x9C, .rst00, .retZ, .ret,
      .jpZA16 0x1234, .callZA16 0x1234, .callA16 0x1234, .adcAD8 0x9C, .rst08] : List Instr).map some := by
  decide

theorem test_decode_primary_row_D :
    ([
      [0b11010000], [0b11010001], [0b11010010, 0x34, 0x12], [0b11010011], [0b11010100, 0x34, 0x12], [0b11010101],
      [0b11010110, 0x9C], [0b11010111], [0b11011000], [0b11011001], [0b11011010, 0x34, 0x12], [0b11011011],
      [0b11011100, 0x34, 0x12], [0b11011101], [0b11011110, 0x9C], [0b11011111]] : List (List Byte)).map decoded = ([
      .retNc, .popDe, .jpNcA16 0x1234, .illegalD3, .callNcA16 0x1234, .pushDe, .subD8 0x9C, .rst10, .retC, .reti,
      .jpCA16 0x1234, .illegalDB, .callCA16 0x1234, .illegalDD, .sbcAD8 0x9C, .rst18] : List Instr).map some := by
  decide

theorem test_decode_primary_row_E :
    ([
      [0b11100000, 0x9C], [0b11100001], [0b11100010], [0b11100011], [0b11100100], [0b11100101], [0b11100110, 0x9C],
      [0b11100111], [0b11101000, 0x9C], [0b11101001], [0b11101010, 0x34, 0x12], [0b11101011], [0b11101100], [0b11101101],
      [0b11101110, 0x9C], [0b11101111]] : List (List Byte)).map decoded = ([
      .ldhMemA8A 0x9C, .popHl, .ldhMemCA, .illegalE3, .illegalE4, .pushHl, .andD8 0x9C, .rst20, .addSpE8 0x9C, .jpHl,
      .ldMemA16A 0x1234, .illegalEB, .illegalEC, .illegalED, .xorD8 0x9C, .rst28] : List Instr).map some := by
  decide

theorem test_decode_primary_row_F :
    ([
      [0b11110000, 0x9C], [0b11110001], [0b11110010], [0b11110011], [0b11110100], [0b11110101], [0b11110110, 0x9C],
      [0b11110111], [0b11111000, 0x9C], [0b11111001], [0b11111010, 0x34, 0x12], [0b11111011], [0b11111100], [0b11111101],
      [0b11111110, 0x9C], [0b11111111]] : List (List Byte)).map decoded = ([
      .ldhAMemA8 0x9C, .popAf, .ldhAMemC, .di, .illegalF4, .pushAf, .orD8 0x9C, .rst30, .ldHlSpE8 0x9C, .ldSpHl,
      .ldAMemA16 0x1234, .ei, .illegalFC, .illegalFD, .cpD8 0x9C, .rst38] : List Instr).map some := by
  decide

theorem test_decode_extended_row_0 :
    ([
      [0b11001011, 0b00000000], [0b11001011, 0b00000001], [0b11001011, 0b00000010], [0b11001011, 0b00000011],
      [0b11001011, 0b00000100], [0b11001011, 0b00000101], [0b11001011, 0b00000110], [0b11001011, 0b00000111],
      [0b11001011, 0b00001000], [0b11001011, 0b00001001], [0b11001011, 0b00001010], [0b11001011, 0b00001011],
      [0b11001011, 0b00001100], [0b11001011, 0b00001101], [0b11001011, 0b00001110], [0b11001011, 0b00001111]] : List (List Byte)).map decoded = ([
      .rlcB, .rlcC, .rlcD, .rlcE, .rlcH, .rlcL, .rlcMemHl, .rlcA, .rrcB, .rrcC, .rrcD, .rrcE, .rrcH, .rrcL, .rrcMemHl, .rrcA] : List Instr).map some := by
  decide

theorem test_decode_extended_row_1 :
    ([
      [0b11001011, 0b00010000], [0b11001011, 0b00010001], [0b11001011, 0b00010010], [0b11001011, 0b00010011],
      [0b11001011, 0b00010100], [0b11001011, 0b00010101], [0b11001011, 0b00010110], [0b11001011, 0b00010111],
      [0b11001011, 0b00011000], [0b11001011, 0b00011001], [0b11001011, 0b00011010], [0b11001011, 0b00011011],
      [0b11001011, 0b00011100], [0b11001011, 0b00011101], [0b11001011, 0b00011110], [0b11001011, 0b00011111]] : List (List Byte)).map decoded = ([
      .rlB, .rlC, .rlD, .rlE, .rlH, .rlL, .rlMemHl, .rlA, .rrB, .rrC, .rrD, .rrE, .rrH, .rrL, .rrMemHl, .rrA] : List Instr).map some := by
  decide

theorem test_decode_extended_row_2 :
    ([
      [0b11001011, 0b00100000], [0b11001011, 0b00100001], [0b11001011, 0b00100010], [0b11001011, 0b00100011],
      [0b11001011, 0b00100100], [0b11001011, 0b00100101], [0b11001011, 0b00100110], [0b11001011, 0b00100111],
      [0b11001011, 0b00101000], [0b11001011, 0b00101001], [0b11001011, 0b00101010], [0b11001011, 0b00101011],
      [0b11001011, 0b00101100], [0b11001011, 0b00101101], [0b11001011, 0b00101110], [0b11001011, 0b00101111]] : List (List Byte)).map decoded = ([
      .slaB, .slaC, .slaD, .slaE, .slaH, .slaL, .slaMemHl, .slaA, .sraB, .sraC, .sraD, .sraE, .sraH, .sraL, .sraMemHl, .sraA] : List Instr).map some := by
  decide

theorem test_decode_extended_row_3 :
    ([
      [0b11001011, 0b00110000], [0b11001011, 0b00110001], [0b11001011, 0b00110010], [0b11001011, 0b00110011],
      [0b11001011, 0b00110100], [0b11001011, 0b00110101], [0b11001011, 0b00110110], [0b11001011, 0b00110111],
      [0b11001011, 0b00111000], [0b11001011, 0b00111001], [0b11001011, 0b00111010], [0b11001011, 0b00111011],
      [0b11001011, 0b00111100], [0b11001011, 0b00111101], [0b11001011, 0b00111110], [0b11001011, 0b00111111]] : List (List Byte)).map decoded = ([
      .swapB, .swapC, .swapD, .swapE, .swapH, .swapL, .swapMemHl, .swapA, .srlB, .srlC, .srlD, .srlE, .srlH, .srlL,
      .srlMemHl, .srlA] : List Instr).map some := by
  decide

theorem test_decode_extended_row_4 :
    ([
      [0b11001011, 0b01000000], [0b11001011, 0b01000001], [0b11001011, 0b01000010], [0b11001011, 0b01000011],
      [0b11001011, 0b01000100], [0b11001011, 0b01000101], [0b11001011, 0b01000110], [0b11001011, 0b01000111],
      [0b11001011, 0b01001000], [0b11001011, 0b01001001], [0b11001011, 0b01001010], [0b11001011, 0b01001011],
      [0b11001011, 0b01001100], [0b11001011, 0b01001101], [0b11001011, 0b01001110], [0b11001011, 0b01001111]] : List (List Byte)).map decoded = ([
      .bit0B, .bit0C, .bit0D, .bit0E, .bit0H, .bit0L, .bit0MemHl, .bit0A, .bit1B, .bit1C, .bit1D, .bit1E, .bit1H, .bit1L,
      .bit1MemHl, .bit1A] : List Instr).map some := by
  decide

theorem test_decode_extended_row_5 :
    ([
      [0b11001011, 0b01010000], [0b11001011, 0b01010001], [0b11001011, 0b01010010], [0b11001011, 0b01010011],
      [0b11001011, 0b01010100], [0b11001011, 0b01010101], [0b11001011, 0b01010110], [0b11001011, 0b01010111],
      [0b11001011, 0b01011000], [0b11001011, 0b01011001], [0b11001011, 0b01011010], [0b11001011, 0b01011011],
      [0b11001011, 0b01011100], [0b11001011, 0b01011101], [0b11001011, 0b01011110], [0b11001011, 0b01011111]] : List (List Byte)).map decoded = ([
      .bit2B, .bit2C, .bit2D, .bit2E, .bit2H, .bit2L, .bit2MemHl, .bit2A, .bit3B, .bit3C, .bit3D, .bit3E, .bit3H, .bit3L,
      .bit3MemHl, .bit3A] : List Instr).map some := by
  decide

theorem test_decode_extended_row_6 :
    ([
      [0b11001011, 0b01100000], [0b11001011, 0b01100001], [0b11001011, 0b01100010], [0b11001011, 0b01100011],
      [0b11001011, 0b01100100], [0b11001011, 0b01100101], [0b11001011, 0b01100110], [0b11001011, 0b01100111],
      [0b11001011, 0b01101000], [0b11001011, 0b01101001], [0b11001011, 0b01101010], [0b11001011, 0b01101011],
      [0b11001011, 0b01101100], [0b11001011, 0b01101101], [0b11001011, 0b01101110], [0b11001011, 0b01101111]] : List (List Byte)).map decoded = ([
      .bit4B, .bit4C, .bit4D, .bit4E, .bit4H, .bit4L, .bit4MemHl, .bit4A, .bit5B, .bit5C, .bit5D, .bit5E, .bit5H, .bit5L,
      .bit5MemHl, .bit5A] : List Instr).map some := by
  decide

theorem test_decode_extended_row_7 :
    ([
      [0b11001011, 0b01110000], [0b11001011, 0b01110001], [0b11001011, 0b01110010], [0b11001011, 0b01110011],
      [0b11001011, 0b01110100], [0b11001011, 0b01110101], [0b11001011, 0b01110110], [0b11001011, 0b01110111],
      [0b11001011, 0b01111000], [0b11001011, 0b01111001], [0b11001011, 0b01111010], [0b11001011, 0b01111011],
      [0b11001011, 0b01111100], [0b11001011, 0b01111101], [0b11001011, 0b01111110], [0b11001011, 0b01111111]] : List (List Byte)).map decoded = ([
      .bit6B, .bit6C, .bit6D, .bit6E, .bit6H, .bit6L, .bit6MemHl, .bit6A, .bit7B, .bit7C, .bit7D, .bit7E, .bit7H, .bit7L,
      .bit7MemHl, .bit7A] : List Instr).map some := by
  decide

theorem test_decode_extended_row_8 :
    ([
      [0b11001011, 0b10000000], [0b11001011, 0b10000001], [0b11001011, 0b10000010], [0b11001011, 0b10000011],
      [0b11001011, 0b10000100], [0b11001011, 0b10000101], [0b11001011, 0b10000110], [0b11001011, 0b10000111],
      [0b11001011, 0b10001000], [0b11001011, 0b10001001], [0b11001011, 0b10001010], [0b11001011, 0b10001011],
      [0b11001011, 0b10001100], [0b11001011, 0b10001101], [0b11001011, 0b10001110], [0b11001011, 0b10001111]] : List (List Byte)).map decoded = ([
      .res0B, .res0C, .res0D, .res0E, .res0H, .res0L, .res0MemHl, .res0A, .res1B, .res1C, .res1D, .res1E, .res1H, .res1L,
      .res1MemHl, .res1A] : List Instr).map some := by
  decide

theorem test_decode_extended_row_9 :
    ([
      [0b11001011, 0b10010000], [0b11001011, 0b10010001], [0b11001011, 0b10010010], [0b11001011, 0b10010011],
      [0b11001011, 0b10010100], [0b11001011, 0b10010101], [0b11001011, 0b10010110], [0b11001011, 0b10010111],
      [0b11001011, 0b10011000], [0b11001011, 0b10011001], [0b11001011, 0b10011010], [0b11001011, 0b10011011],
      [0b11001011, 0b10011100], [0b11001011, 0b10011101], [0b11001011, 0b10011110], [0b11001011, 0b10011111]] : List (List Byte)).map decoded = ([
      .res2B, .res2C, .res2D, .res2E, .res2H, .res2L, .res2MemHl, .res2A, .res3B, .res3C, .res3D, .res3E, .res3H, .res3L,
      .res3MemHl, .res3A] : List Instr).map some := by
  decide

theorem test_decode_extended_row_A :
    ([
      [0b11001011, 0b10100000], [0b11001011, 0b10100001], [0b11001011, 0b10100010], [0b11001011, 0b10100011],
      [0b11001011, 0b10100100], [0b11001011, 0b10100101], [0b11001011, 0b10100110], [0b11001011, 0b10100111],
      [0b11001011, 0b10101000], [0b11001011, 0b10101001], [0b11001011, 0b10101010], [0b11001011, 0b10101011],
      [0b11001011, 0b10101100], [0b11001011, 0b10101101], [0b11001011, 0b10101110], [0b11001011, 0b10101111]] : List (List Byte)).map decoded = ([
      .res4B, .res4C, .res4D, .res4E, .res4H, .res4L, .res4MemHl, .res4A, .res5B, .res5C, .res5D, .res5E, .res5H, .res5L,
      .res5MemHl, .res5A] : List Instr).map some := by
  decide

theorem test_decode_extended_row_B :
    ([
      [0b11001011, 0b10110000], [0b11001011, 0b10110001], [0b11001011, 0b10110010], [0b11001011, 0b10110011],
      [0b11001011, 0b10110100], [0b11001011, 0b10110101], [0b11001011, 0b10110110], [0b11001011, 0b10110111],
      [0b11001011, 0b10111000], [0b11001011, 0b10111001], [0b11001011, 0b10111010], [0b11001011, 0b10111011],
      [0b11001011, 0b10111100], [0b11001011, 0b10111101], [0b11001011, 0b10111110], [0b11001011, 0b10111111]] : List (List Byte)).map decoded = ([
      .res6B, .res6C, .res6D, .res6E, .res6H, .res6L, .res6MemHl, .res6A, .res7B, .res7C, .res7D, .res7E, .res7H, .res7L,
      .res7MemHl, .res7A] : List Instr).map some := by
  decide

theorem test_decode_extended_row_C :
    ([
      [0b11001011, 0b11000000], [0b11001011, 0b11000001], [0b11001011, 0b11000010], [0b11001011, 0b11000011],
      [0b11001011, 0b11000100], [0b11001011, 0b11000101], [0b11001011, 0b11000110], [0b11001011, 0b11000111],
      [0b11001011, 0b11001000], [0b11001011, 0b11001001], [0b11001011, 0b11001010], [0b11001011, 0b11001011],
      [0b11001011, 0b11001100], [0b11001011, 0b11001101], [0b11001011, 0b11001110], [0b11001011, 0b11001111]] : List (List Byte)).map decoded = ([
      .set0B, .set0C, .set0D, .set0E, .set0H, .set0L, .set0MemHl, .set0A, .set1B, .set1C, .set1D, .set1E, .set1H, .set1L,
      .set1MemHl, .set1A] : List Instr).map some := by
  decide

theorem test_decode_extended_row_D :
    ([
      [0b11001011, 0b11010000], [0b11001011, 0b11010001], [0b11001011, 0b11010010], [0b11001011, 0b11010011],
      [0b11001011, 0b11010100], [0b11001011, 0b11010101], [0b11001011, 0b11010110], [0b11001011, 0b11010111],
      [0b11001011, 0b11011000], [0b11001011, 0b11011001], [0b11001011, 0b11011010], [0b11001011, 0b11011011],
      [0b11001011, 0b11011100], [0b11001011, 0b11011101], [0b11001011, 0b11011110], [0b11001011, 0b11011111]] : List (List Byte)).map decoded = ([
      .set2B, .set2C, .set2D, .set2E, .set2H, .set2L, .set2MemHl, .set2A, .set3B, .set3C, .set3D, .set3E, .set3H, .set3L,
      .set3MemHl, .set3A] : List Instr).map some := by
  decide

theorem test_decode_extended_row_E :
    ([
      [0b11001011, 0b11100000], [0b11001011, 0b11100001], [0b11001011, 0b11100010], [0b11001011, 0b11100011],
      [0b11001011, 0b11100100], [0b11001011, 0b11100101], [0b11001011, 0b11100110], [0b11001011, 0b11100111],
      [0b11001011, 0b11101000], [0b11001011, 0b11101001], [0b11001011, 0b11101010], [0b11001011, 0b11101011],
      [0b11001011, 0b11101100], [0b11001011, 0b11101101], [0b11001011, 0b11101110], [0b11001011, 0b11101111]] : List (List Byte)).map decoded = ([
      .set4B, .set4C, .set4D, .set4E, .set4H, .set4L, .set4MemHl, .set4A, .set5B, .set5C, .set5D, .set5E, .set5H, .set5L,
      .set5MemHl, .set5A] : List Instr).map some := by
  decide

theorem test_decode_extended_row_F :
    ([
      [0b11001011, 0b11110000], [0b11001011, 0b11110001], [0b11001011, 0b11110010], [0b11001011, 0b11110011],
      [0b11001011, 0b11110100], [0b11001011, 0b11110101], [0b11001011, 0b11110110], [0b11001011, 0b11110111],
      [0b11001011, 0b11111000], [0b11001011, 0b11111001], [0b11001011, 0b11111010], [0b11001011, 0b11111011],
      [0b11001011, 0b11111100], [0b11001011, 0b11111101], [0b11001011, 0b11111110], [0b11001011, 0b11111111]] : List (List Byte)).map decoded = ([
      .set6B, .set6C, .set6D, .set6E, .set6H, .set6L, .set6MemHl, .set6A, .set7B, .set7C, .set7D, .set7E, .set7H, .set7L,
      .set7MemHl, .set7A] : List Instr).map some := by
  decide

/-- The prefix with a second byte is the extended row of that byte, never the row PREFIX_CB. -/
theorem test_decode_prefix_row : decoded [0b11001011, 0b10011100] = some .res3H := by decide

/-! ## One step -/

/-- The fixture of 95 section 3: the reset state over a 32 KiB ROM-only image of zeros, with the code at 0xC800, SP at 0xD000 and
nothing requested. -/
def withCode (bs : List Byte) : State :=
  { State.reset with
    regs := { Regs.reset with pc := 0xC800, sp := 0xD000 }
    iflag := 0
    cart := { Cart.none with romLen := 0x8000, rtcRead := 0 }
    mem := { State.reset.mem with wram := cellsOfBytes 0x800 bs } }

/-- The step from `s` answers a next state of which `p` holds. -/
def stepGives (s : State) (p : State → Bool) : Bool :=
  match step s with
  | .next t => p t
  | .fault _ => false
  | .refused _ => false

/-- `s` with A, the operand B and F. -/
def aluState (op a b f : Byte) : State := writeF f (writeR8 .b b (writeR8 .a a (withCode [op])))

/-- An instruction with operand B leaves A and F. -/
def aluGives (op a b f a' f' : Byte) : Bool := stepGives (aluState op a b f) (fun t => t.regs.a == a' && t.regs.f == f')

/-- V3. -/
theorem test_add : aluGives 0x80 0xFF 0x01 0x00 0x00 0xB0 = true := by decide

/-- V10. -/
theorem test_adc : aluGives 0x88 0xE1 0x0F 0x10 0xF1 0x20 = true := by decide

/-- V12. -/
theorem test_sub : aluGives 0x90 0x00 0x01 0x00 0xFF 0x70 = true := by decide

/-- V19: the borrow comes from the operand and the carry together. -/
theorem test_sbc : aluGives 0x98 0x00 0xFF 0x10 0x00 0xF0 = true := by decide

/-- V21. -/
theorem test_and : aluGives 0xA0 0xF0 0x0F 0x10 0x00 0xA0 = true := by decide

/-- V22. -/
theorem test_xor : aluGives 0xA8 0xFF 0xFF 0xF0 0x00 0x80 = true := by decide

/-- V24. -/
theorem test_or : aluGives 0xB0 0x00 0x00 0xF0 0x00 0x80 = true := by decide

/-- V28: A is not written. -/
theorem test_cp : aluGives 0xB8 0x3C 0x40 0x00 0x3C 0x50 = true := by decide

/-- An instruction on B leaves B and F. -/
def byteGives (bs : List Byte) (b f b' f' : Byte) : Bool :=
  stepGives (writeF f (writeR8 .b b (withCode bs))) (fun t => t.regs.b == b' && t.regs.f == f')

/-- V31: CY is unchanged. -/
theorem test_inc : byteGives [0x04] 0x7F 0xF0 0x80 0x30 = true := by decide

/-- V34. -/
theorem test_dec : byteGives [0x05] 0x10 0x00 0x0F 0x60 = true := by decide

/-- V35. -/
theorem test_inc_memHl :
    stepGives (memWrite 0xC000 0xFF (writeF 0x00 (writeR16 .hl 0xC000 (withCode [0x34]))))
      (fun t => memRead 0xC000 t == 0x00 && t.regs.f == 0xA0 && t.cycles == 3) = true := by decide

/-- V41: after 0x99 + 0x67. -/
theorem test_daa_after_addition : aluGives 0x27 0x00 0x00 0x30 0x66 0x10 = true := by decide

/-- V47: after a subtraction. -/
theorem test_daa_after_subtraction : aluGives 0x27 0x66 0x00 0x70 0x00 0xD0 = true := by decide

/-- V48. -/
theorem test_cpl : aluGives 0x2F 0x00 0x00 0x90 0xFF 0xF0 = true := by decide

/-- V49. -/
theorem test_scf : aluGives 0x37 0x00 0x00 0x60 0x00 0x10 = true := by decide

/-- V51. -/
theorem test_ccf : aluGives 0x3F 0x00 0x00 0x80 0x00 0x90 = true := by decide

/-- V53. -/
theorem test_add_hl :
    stepGives (writeF 0x00 (writeR16 .bc 0x0001 (writeR16 .hl 0xFFFF (withCode [0x09]))))
      (fun t => readHl t == 0x0000 && t.regs.f == 0x30) = true := by decide

/-- V64: the flags are those of the unsigned addition to SP's low byte. -/
theorem test_add_sp_negative :
    stepGives (setSp 0x0005 (withCode [0xE8, 0xFB])) (fun t => t.regs.sp == 0x0000 && t.regs.f == 0x30) = true := by decide

/-- V66. -/
theorem test_ld_hl_sp :
    stepGives (setSp 0xFFF8 (withCode [0xF8, 0xFE]))
      (fun t => readHl t == 0xFFF6 && t.regs.sp == 0xFFF8 && t.regs.f == 0x30) = true := by decide

/-- V72: RLCA never sets Z. -/
theorem test_rlca_of_zero : aluGives 0x07 0x00 0x00 0x80 0x00 0x00 = true := by decide

/-- V71. -/
theorem test_rra : aluGives 0x1F 0x00 0x00 0x10 0x80 0x00 = true := by decide

/-- V80. -/
theorem test_rl : byteGives [0xCB, 0x10] 0x01 0x10 0x03 0x00 = true := by decide

/-- V88: SRA keeps the sign. -/
theorem test_sra : byteGives [0xCB, 0x28] 0x80 0x00 0xC0 0x00 = true := by decide

/-- V92. -/
theorem test_swap : byteGives [0xCB, 0x30] 0x01 0x10 0x10 0x00 = true := by decide

/-- V100. -/
theorem test_bit : byteGives [0xCB, 0x78] 0x7F 0x00 0x7F 0xA0 = true := by decide

/-- V102. -/
theorem test_res :
    stepGives (writeF 0xF0 (writeR8 .a 0x80 (withCode [0xCB, 0xBF]))) (fun t => t.regs.a == 0x00 && t.regs.f == 0xF0) = true := by
  decide

/-- V104: SET 7,(HL) at IE reads 1s in IE's unused bits and stores none of them. -/
theorem test_set_at_ie :
    stepGives (writeR16 .hl 0xFFFF (withCode [0xCB, 0xFE]))
      (fun t => t.ie == 0 && memRead 0xFFFF t == 0xE0 && t.cycles == 4) = true := by decide

/-- V105: LD A,(HL+) at the top of memory. -/
theorem test_ld_a_hlInc :
    stepGives { writeR16 .hl 0xFFFF (withCode [0x2A]) with ie := 0x15 } (fun t => t.regs.a == 0xF5 && readHl t == 0x0000) = true := by
  decide

/-- V108: the last echo address is WRAM's cell 0xDDFF. -/
theorem test_store_to_echo :
    stepGives (writeR8 .a 0x66 (writeR16 .hl 0xFDFF (withCode [0x77]))) (fun t => memRead 0xDDFF t == 0x66) = true := by decide

/-- V114: the two bytes of LD (a16),SP wrap from IE to the ROM. -/
theorem test_ld_a16_sp_wraps :
    stepGives (setSp 0xABCD (withCode [0x08, 0xFF, 0xFF])) (fun t => t.ie == 0x0D && t.cycles == 5) = true := by decide

/-- V115. -/
theorem test_push_af :
    stepGives (writeF 0xB0 (writeR8 .a 0x12 (setSp 0xFFFE (withCode [0xF5]))))
      (fun t => memRead 0xFFFD t == 0x12 && memRead 0xFFFC t == 0xB0 && t.regs.sp == 0xFFFC) = true := by decide

/-- V116: F's low nibble stays 0. -/
theorem test_pop_af :
    stepGives (memWrite 0xFFF0 0xFF (setSp 0xFFF0 (withCode [0xF1])))
      (fun t => t.regs.a == 0x00 && t.regs.f == 0xF0 && t.regs.sp == 0xFFF2) = true := by decide

/-- V118: the pop wraps past IE. -/
theorem test_pop_hl_wraps :
    stepGives { memWrite 0xFFFE 0x34 (setSp 0xFFFE (withCode [0xE1])) with ie := 0x12 }
      (fun t => readHl t == 0xF234 && t.regs.sp == 0x0000) = true := by decide

/-- V122. -/
theorem test_jr_backwards :
    stepGives (withCode [0x18, 0x80]) (fun t => t.regs.pc == 0xC782 && t.cycles == 3) = true := by decide

/-- V126: not taken. -/
theorem test_jp_nc_not_taken :
    stepGives (writeF 0x10 (withCode [0xD2, 0x34, 0x12])) (fun t => t.regs.pc == 0xC803 && t.cycles == 3) = true := by decide

/-- V127. -/
theorem test_call_nz_taken :
    stepGives (writeF 0x00 (withCode [0xC4, 0x00, 0x40]))
      (fun t => t.regs.pc == 0x4000 && t.regs.sp == 0xCFFE && memRead 0xCFFE t == 0x03 && memRead 0xCFFF t == 0xC8 && t.cycles == 6)
      = true := by decide

/-- V129: not taken. -/
theorem test_ret_nc_not_taken :
    stepGives (writeF 0x10 (withCode [0xD0])) (fun t => t.regs.pc == 0xC801 && t.regs.sp == 0xD000 && t.cycles == 2) = true := by
  decide

/-- V130. -/
theorem test_rst :
    stepGives (withCode [0xFF])
      (fun t => t.regs.pc == 0x0038 && memRead 0xCFFE t == 0x01 && memRead 0xCFFF t == 0xC8 && t.cycles == 4) = true := by decide

/-- V138: the lowest bit wins, and its bit alone is cleared. -/
theorem test_interrupt_priority :
    stepGives { withCode [0x00] with ie := 0x1F, iflag := 0x18, ime := true }
      (fun t => t.regs.pc == 0x0058 && t.iflag == 0x10 && t.ime == false && t.cycles == 6) = true := by decide

/-- V139: a request that is not enabled is not serviced. -/
theorem test_request_not_enabled :
    stepGives { withCode [0x00] with ie := 0x1E, iflag := 0x01, ime := true }
      (fun t => t.regs.pc == 0xC801 && t.iflag == 0x01 && t.cycles == 1) = true := by decide

/-- V141: HALT with IME set and an interrupt pending. -/
theorem test_halt_serviced_at_once :
    stepGives { withCode [0x76] with ie := 0x04, iflag := 0x04, ime := true }
      (fun t => t.halted == false && t.regs.pc == 0x0050 && memRead 0xCFFE t == 0x01 && t.cycles == 6) = true := by decide

/-- V143's second step: under the HALT bug LD B,5 reads its own opcode as the operand. -/
theorem test_halt_bug_repeats_the_byte :
    stepGives { withCode [0x06, 0x05] with haltBug := true }
      (fun t => t.regs.b == 0x06 && t.regs.pc == 0xC801 && t.haltBug == false) = true := by decide

/-- V135's first step: EI does not enable within its own step. -/
theorem test_ei_delays :
    stepGives { withCode [0xFB] with ie := 0x05, iflag := 0x05 } (fun t => t.ime == false && t.imeDelay == 1 && t.cycles == 1)
      = true := by decide

/-- V146: the failing step changes nothing but the latched failure, though an interrupt is pending; the next one repeats it. -/
theorem test_illegal_opcode :
    stepGives { withCode [0xD3] with ie := 0x01, iflag := 0x01, ime := true }
      (fun t => decide (t = { withCode [0xD3] with ie := 0x01, iflag := 0x01, ime := true, failure := some ⟨0xC800, 0xD3⟩ })) = true := by
  decide

theorem test_illegal_opcode_stays :
    (match step { withCode [0xD3] with failure := some ⟨0xC800, 0xD3⟩ } with
      | .next _ => false
      | .fault f => decide (f = .unimplementedOpcode 0xC800 0xD3)
      | .refused _ => false) = true := by decide

/-- V158: TIMA counts where divider bit 3 falls. -/
theorem test_timer_counts :
    stepGives { withCode [0x00] with timer := ⟨0x000C, 0x10, 0x00, 5, 0⟩ }
      (fun t => t.timer.divCounter == 0x0010 && t.timer.tima == 0x11) = true := by decide

/-- V163, the first NOP: the overflow requests the interrupt and starts the reload. -/
theorem test_timer_overflow :
    stepGives { withCode [0x00] with timer := ⟨0x000C, 0xFF, 0x42, 5, 0⟩ }
      (fun t => t.timer.tima == 0x00 && t.timer.timaReload == 4 && t.iflag == 0x04) = true := by decide

/-- V165: a DIV write where the signal is high counts once more. -/
theorem test_div_write :
    stepGives { withCode [0xE0, 0x04] with timer := ⟨0x0008, 0x20, 0x00, 5, 0⟩ }
      (fun t => t.timer.tima == 0x21 && t.timer.divCounter == 0x000C) = true := by decide

/-- The reset state runs whatever instruction is placed where it fetches: here LD B,0x05 (P1's first step). -/
theorem test_withFetchWord_runs_first :
    stepGives (State.reset.withFetchWord 16 0x0506) (fun t => t.regs.b == 0x05 && t.regs.pc == 0x0102 && t.cycles == 2) = true := by
  decide

/-- Where PC's bytes cannot be placed, the instruction stands in WRAM. -/
theorem test_withFetchWord_moves_out_of_io :
    stepGives ((setPc 0xFF04 State.reset).withFetchWord 8 0x3C) (fun t => t.regs.a == 0x02 && t.regs.pc == 0xC001) = true := by decide

/-! ## The cartridge -/

/-- An instance of variant `k` with the RAM size and the bank registers `m`; byte 0x4000 * b of its image is b, for the four banks it
has. -/
def cartState (k : MbcKind) (ramSize : Nat) (m : Mbc) : State :=
  { withCode [] with
    mbc := m
    cart := { Cart.none with kind := k, romLen := 0x10000, ramSize := ramSize, rtcRead := 0x5A }
    mem := { State.reset.mem with rom := [(0x4000, 0x01), (0x8000, 0x02), (0xC000, 0x03)] } }

/-- V174, V175, V176: MBC1's zero becomes one, before the reduction modulo the banks present. -/
theorem test_mbc1_bank_zero :
    memRead 0x4000 (memWrite 0x2000 0x20 (cartState .mbc1 0 ⟨1, 0, false, false⟩)) = 0x01 ∧
    memRead 0x4000 (memWrite 0x2000 0x05 (cartState .mbc1 0 ⟨1, 0, false, false⟩)) = 0x01 := by decide

/-- 20 R115's pseudocode with R111, by hand, for an image of three banks (log entry 19): 32 mod 3 is 2, 33 mod 3 is 0. -/
theorem test_mbc1_bank2_of_three_banks :
    (let s := cartState .mbc1 0 ⟨1, 1, false, true⟩
     let s3 := { s with cart := { s.cart with romLen := 0xC000 } }
     memRead 0x0000 s3 = 0x02 ∧ memRead 0x4000 s3 = 0x00) := by decide

/-- V187: MBC2's four-bit cells. -/
theorem test_mbc2_cells :
    memRead 0xA200 (memWrite 0xA000 0xAB (memWrite 0x0000 0x0A (cartState .mbc2 512 ⟨1, 0, false, false⟩))) = 0xFB := by decide

/-- V184: 2 KiB of RAM shows four times. -/
theorem test_ram_mirrors :
    memRead 0xA800 (memWrite 0xA000 0x31 (cartState .mbc1 2048 ⟨1, 0, true, false⟩)) = 0x31 := by decide

/-- V193 and V191: MBC5 reduces modulo the banks and allows bank 0. -/
theorem test_mbc5_banks :
    memRead 0x4000 (memWrite 0x2000 0xFF (cartState .mbc5 0 ⟨1, 0, false, false⟩)) = 0x03 ∧
    memRead 0x4000 (memWrite 0x2000 0x00 (cartState .mbc5 0 ⟨1, 0, false, false⟩)) = 0x00 := by decide

/-- V200, V201, V199, V198: unused bits read 1, the gap reads the fill value. -/
theorem test_unused_bits :
    memRead 0xFFFF (memWrite 0xFFFF 0x00 (withCode [])) = 0xE0 ∧ memRead 0xFF07 (memWrite 0xFF07 0x00 (withCode [])) = 0xF8 ∧
    memRead 0xFF0F (memWrite 0xFF0F 0x00 (withCode [])) = 0xE0 ∧ memRead 0xFEFF (memWrite 0xFEFF 0x56 (withCode [])) = 0xFF := by decide

/-- The smallest image that loads (V210): zeros, with the checksum 0xE7 of a zero header (70 R478). -/
def smallImage : List Byte := List.replicate 0x14D 0x00 ++ [0xE7, 0x00, 0x00]

/-- Draws with nothing in them but the phase and the clock byte. -/
def someDraws : Draws := ⟨[], [], [], [], [], [], 0x5A, 0x1234⟩

/-- The check that fails, or none. -/
def loadError (image : List Byte) : Option InvalidRom :=
  match load image someDraws with
  | .ok _ => none
  | .error e => some e

/-- V205. -/
theorem test_load_too_short : loadError (smallImage.take 0x14F) = some .tooShort := by decide +kernel

/-- V206. -/
theorem test_load_checksum : loadError (List.replicate 0x150 0x00) = some .checksumMismatch := by decide +kernel

/-- V208: type 0x04, the checksum corrected by its 4. -/
theorem test_load_unsupported : loadError ((smallImage.set 0x147 0x04).set 0x14D 0xE3) = some .unsupportedCartridge := by decide +kernel

/-- V209: type 0x02 with RAM code 0x06. -/
theorem test_load_ram_code :
    loadError (((smallImage.set 0x147 0x02).set 0x149 0x06).set 0x14D 0xDF) = some .unsupportedCartridge := by decide +kernel

/-- 92 D24: the RAM code 0x06 is refused for type 0x01 too, which has no external RAM; only MBC2, type 0x05, ignores the code. -/
theorem test_load_ram_code_without_ram :
    loadError (((smallImage.set 0x147 0x01).set 0x149 0x06).set 0x14D 0xE0) = some .unsupportedCartridge ∧
    loadError (((smallImage.set 0x147 0x05).set 0x149 0x06).set 0x14D 0xDC) = none := by decide +kernel

/-- V210. -/
theorem test_load_small_image : loadError smallImage = none := by decide +kernel

/-! ## Witnesses

For each statement with hypotheses, a state and operands that meet them; for one with clauses, each clause at a boundary. -/

theorem test_witness_DecodeUndoesEncode : wellFormed .set7A = true ∧ wellFormed (.callA16 0xFFFF) = true := by decide

theorem test_witness_EncodeUndoesDecode : decode [0xCD, 0x00, 0x02, 0x76] = .ok (.callA16 0x0200, [0x76]) := rfl

theorem test_witness_PrimaryTableFollowsFields : (0xCA : Byte) ≠ 0xCB ∧ (0xCC : Byte) ≠ 0xCB := by decide

theorem test_witness_Additions : (AluOp.add = .add ∨ AluOp.add = .adc) ∧ (AluOp.adc = .add ∨ AluOp.adc = .adc) := by decide

theorem test_witness_Subtractions :
    (AluOp.sub = .sub ∨ AluOp.sub = .sbc ∨ AluOp.sub = .cp) ∧ (AluOp.sbc = .sub ∨ AluOp.sbc = .sbc ∨ AluOp.sbc = .cp) ∧
    (AluOp.cp = .sub ∨ AluOp.cp = .sbc ∨ AluOp.cp = .cp) := by decide

theorem test_witness_LogicalOperations :
    (AluOp.and = .and ∨ AluOp.and = .xor ∨ AluOp.and = .or) ∧ (AluOp.xor = .and ∨ AluOp.xor = .xor ∨ AluOp.xor = .or) ∧
    (AluOp.or = .and ∨ AluOp.or = .xor ∨ AluOp.or = .or) := by decide

theorem test_witness_RotatesAndShifts :
    ((Instr.rlca, RotOp.rlc, 0b00000111#8) ∈
      [(Instr.rlca, RotOp.rlc, 0b00000111#8), (.rrca, .rrc, 0b00001111), (.rla, .rl, 0b00010111), (.rra, .rr, 0b00011111)]) ∧
    ((Instr.rra, RotOp.rr, 0b00011111#8) ∈
      [(Instr.rlca, RotOp.rlc, 0b00000111#8), (.rrca, .rrc, 0b00001111), (.rla, .rl, 0b00010111), (.rra, .rr, 0b00011111)]) := by
  decide

/-- The conditions of the conditional jumps, calls and returns: each is true in one state and false in another. -/
theorem test_witness_conditions :
    condTrue .z (writeF 0x80 (withCode [])) ∧ ¬condTrue .z (writeF 0x70 (withCode [])) ∧
    condTrue .nz (writeF 0x70 (withCode [])) ∧ ¬condTrue .nz (writeF 0x80 (withCode [])) ∧
    condTrue .c (writeF 0x10 (withCode [])) ∧ ¬condTrue .c (writeF 0xE0 (withCode [])) ∧
    condTrue .nc (writeF 0xE0 (withCode [])) ∧ ¬condTrue .nc (writeF 0x10 (withCode [])) := by
  simp only [condTrue]
  decide

theorem test_witness_SystemInstructions_halt :
    (let s := { withCode [0x76] with ie := 0x10, iflag := 0x10 }
     s.ime = false ∧ s.ie &&& s.iflag ≠ 0) ∧
    (let s := { withCode [0x76] with ie := 0x10, iflag := 0x0F }
     ¬(s.ime = false ∧ s.ie &&& s.iflag ≠ 0)) ∧
    (let s := { withCode [0x76] with ie := 0x10, iflag := 0x10, ime := true }
     ¬(s.ime = false ∧ s.ie &&& s.iflag ≠ 0)) := by decide

theorem test_witness_UndefinedOpcodesLatchTheFailure :
    (Instr.illegalD3, 0xD3#8) ∈ Families.illegalOpcodes ∧ (Instr.illegalFD, 0xFD#8) ∈ Families.illegalOpcodes := by decide

/-- A step that goes on, and one that fails. -/
theorem test_witness_StepRunsTheDecodedInstruction :
    ((withCode [0xC3, 0x50, 0x01]).failure = none ∧ (withCode [0xC3, 0x50, 0x01]).halted = false ∧
      decode (streamBytes (withCode [0xC3, 0x50, 0x01])) = .ok (.jpA16 0x0150, [])) ∧
    ((withCode [0xD3]).failure = none ∧ (withCode [0xD3]).halted = false ∧
      decode (streamBytes (withCode [0xD3])) = .ok (.illegalD3, [0x00, 0x00])) :=
  have jump : streamBytes (withCode [0xC3, 0x50, 0x01]) = [0xC3, 0x50, 0x01] := by decide
  have illegal : streamBytes (withCode [0xD3]) = [0xD3, 0x00, 0x00] := by decide
  ⟨⟨by decide, by decide, jump ▸ rfl⟩, by decide, by decide, illegal ▸ rfl⟩

/-- The inner premises of the same statement: the meaning's next state has no failure, or has one. -/
theorem test_witness_StepRunsTheDecodedInstruction_outcomes :
    (∃ t, exec .nop (withCode [0x00]) = .next t ∧ t.failure = none) ∧
    (∃ t, exec .illegalD3 (withCode [0xD3]) = .next t ∧ t.failure ≠ none) :=
  ⟨⟨_, rfl, by decide⟩, _, rfl, by decide⟩

theorem test_witness_HaltBugReadsTheByteTwice :
    ({ withCode [0x3C] with haltBug := true }).haltBug = true ∧ (withCode [0x3C]).haltBug = false ∧ 1 ≤ 1 ∧ 1 ≤ 3 := by decide

theorem test_witness_EveryStepAnswers : (withCode [0xD3]).failure = none ∧ State.reset.failure = none := by decide

theorem test_witness_OnlyTwelveOpcodesFail :
    ((withCode [0xFD]).failure = none ∧ (withCode [0xFD]).halted = false ∧
      memRead (withCode [0xFD]).regs.pc (withCode [0xFD]) ∈ undefinedBytes) ∧
    ((withCode [0x10]).failure = none ∧ (withCode [0x10]).halted = false ∧
      memRead (withCode [0x10]).regs.pc (withCode [0x10]) ∈ undefinedBytes) ∧
    ((withCode [0xFE]).failure = none ∧ (withCode [0xFE]).halted = false ∧
      memRead (withCode [0xFE]).regs.pc (withCode [0xFE]) ∉ undefinedBytes) := by decide

theorem test_witness_FailureStaysLatched :
    ({ withCode [0xD3] with failure := some ⟨0xC800, 0xD3⟩ }).failure = some ⟨0xC800, 0xD3⟩ := by decide

/-- A halted state with IE, IF and IME, whose timer does not count. -/
def haltedWith (ie iflag : BitVec 5) (ime : Bool) : State := { withCode [] with halted := true, ie := ie, iflag := iflag, ime := ime }

theorem test_witness_HaltedStep :
    (let s := haltedWith 0x04 0x1B false
     s.failure = none ∧ s.halted = true ∧ s.imeDelay = 0 ∧
     s.ie &&& (if (timerRun 4 s.timer).2 then s.iflag ||| 0b00100#5 else s.iflag) = 0) ∧
    (let s := haltedWith 0x04 0x04 false
     s.failure = none ∧ s.halted = true ∧ s.imeDelay = 0 ∧
     s.ie &&& (if (timerRun 4 s.timer).2 then s.iflag ||| 0b00100#5 else s.iflag) ≠ 0 ∧ s.ime = false) ∧
    (let s := haltedWith 0x04 0x04 true
     s.failure = none ∧ s.halted = true ∧ s.imeDelay = 0 ∧
     s.ie &&& (if (timerRun 4 s.timer).2 then s.iflag ||| 0b00100#5 else s.iflag) ≠ 0 ∧ s.ime = true) := by decide

/-- The same where the wake-up is the timer's own overflow in these four clocks (V170). -/
theorem test_witness_HaltedStep_timer_wakes :
    (let s := { haltedWith 0x04 0x00 false with timer := ⟨0x000C, 0xFF, 0x00, 5, 0⟩ }
     s.failure = none ∧ s.halted = true ∧ s.imeDelay = 0 ∧
     s.ie &&& (if (timerRun 4 s.timer).2 then s.iflag ||| 0b00100#5 else s.iflag) ≠ 0 ∧ s.ime = false) := by decide

/-- After an ordinary instruction: IME set already, and set by the countdown; the last source alone, and all five at once. -/
theorem test_witness_ArbiterPicksTheLowestVector :
    (let t := { withCode [] with ime := true, ie := 0x1F, iflag := 0x10, cycles := 1 }
     t.halted = false ∧ (t.ime = true ∨ t.imeDelay = 1) ∧ t.ie &&& flagsAfterClocks t ≠ 0) ∧
    (let t := { withCode [] with imeDelay := 1, ie := 0x1F, iflag := 0x1F, cycles := 6 }
     t.halted = false ∧ (t.ime = true ∨ t.imeDelay = 1) ∧ t.ie &&& flagsAfterClocks t ≠ 0) ∧
    (let t := { haltedWith 0x10 0x10 true with cycles := 1 }
     t.halted = true ∧ (t.ime = true ∨ t.imeDelay = 1) ∧ t.ie &&& flagsAfterClocks t ≠ 0) := by decide

/-- A halted step, and the step of an instruction that does not fail. -/
theorem test_witness_ArbiterPicksTheLowestVector_steps :
    ((haltedWith 0x10 0x10 true).failure = none ∧ (haltedWith 0x10 0x10 true).halted = true) ∧
    ((withCode [0x00]).failure = none ∧ (withCode [0x00]).halted = false ∧
      ∃ t, exec (fetchInstr (withCode [0x00])) (withCode [0x00]) = .next t ∧ t.failure = none) := by
  have nop : fetchInstr (withCode [0x00]) = .nop := by decide
  refine ⟨by decide, by decide, by decide, ?_⟩
  rw [nop]
  exact ⟨_, rfl, by decide⟩

theorem test_witness_DiAndEiStepsTakeNoInterrupt :
    ((withCode [0xF3]).failure = none ∧ (withCode [0xF3]).halted = false ∧ fetchInstr (withCode [0xF3]) = .di) ∧
    ((withCode [0xFB]).failure = none ∧ (withCode [0xFB]).halted = false ∧ fetchInstr (withCode [0xFB]) = .ei ∧
      (withCode [0xFB]).ime = false ∧ (withCode [0xFB]).imeDelay = 0) := by decide

/-- Nothing pending; pending with IME clear and the countdown at 0 and at 2; pending with IME set, and with the countdown at 1. -/
theorem test_witness_DeferredEnableTakesEffect :
    (let t := { withCode [] with imeDelay := 1, ie := 0x10, iflag := 0x0F }
     t.imeDelay = 1 ∧ t.ie &&& flagsAfterClocks t = 0) ∧
    (let t := { withCode [] with ie := 0x10, iflag := 0x10, cycles := 6 }
     t.ie &&& flagsAfterClocks t ≠ 0 ∧ t.ime = false ∧ t.imeDelay ≠ 1) ∧
    (let t := { withCode [] with imeDelay := 2, ie := 0x01, iflag := 0x01, cycles := 1 }
     t.ie &&& flagsAfterClocks t ≠ 0 ∧ t.ime = false ∧ t.imeDelay ≠ 1) ∧
    (let t := { withCode [] with ime := true, ie := 0x01, iflag := 0x01, cycles := 1 }
     t.ie &&& flagsAfterClocks t ≠ 0 ∧ (t.ime = true ∨ t.imeDelay = 1) ∧ t.imeDelay ≠ 1) ∧
    (let t := { withCode [] with imeDelay := 1, ie := 0x10, iflag := 0x10, cycles := 1 }
     t.ie &&& flagsAfterClocks t ≠ 0 ∧ (t.ime = true ∨ t.imeDelay = 1)) := by decide

/-- Each instruction that the statement names does change what it may change: IME, the deferral, `halted`, the HALT bug. -/
theorem test_witness_OnlyTheseWriteInterruptControl :
    (∃ t, exec .di { withCode [] with ime := true } = .next t ∧ t.ime ≠ true) ∧
    (∃ t, exec .reti (withCode []) = .next t ∧ t.ime ≠ (withCode []).ime) ∧
    (∃ t, exec .ei (withCode []) = .next t ∧ t.imeDelay ≠ (withCode []).imeDelay) ∧
    (∃ t, exec .halt (withCode []) = .next t ∧ t.halted ≠ (withCode []).halted) ∧
    (∃ t, exec .halt { withCode [] with ie := 1, iflag := 1 } = .next t ∧ t.haltBug = true) ∧
    (∃ t, exec .nop { withCode [] with failure := some ⟨0, 0xD3⟩ } = .next t ∧ some (⟨0, 0xD3⟩ : UnimplementedOpcode) ≠ none) :=
  ⟨⟨_, rfl, by decide⟩, ⟨_, rfl, by decide⟩, ⟨_, rfl, by decide⟩, ⟨_, rfl, by decide⟩, ⟨_, rfl, by decide⟩, _, rfl, by decide⟩

/-- The last increment without an overflow, and a disabled timer. -/
theorem test_witness_TimaCountsOncePerPeriod :
    (let t : Timer := ⟨0x000F, 0xFE, 0x00, 5, 0⟩
     t.timaReload = 0 ∧ t.tac.getLsbD 2 = true ∧
     t.tima.toNat + (t.divCounter.toNat % timaPeriod t.tac + 16) / timaPeriod t.tac ≤ 0xFF) ∧
    (let t : Timer := ⟨0x000F, 0xFF, 0x00, 3, 0⟩
     t.timaReload = 0 ∧ t.tac.getLsbD 2 = false) := by decide

theorem test_witness_TimaOverflowReloadsAfterFourClocks :
    (let t : Timer := ⟨0xFFFF, 0xFF, 0x42, 4, 0⟩
     t.timaReload = 0 ∧ t.tima = 0xFF ∧ t.tac.getLsbD 2 = true ∧ (t.divCounter.toNat + 1) % timaPeriod t.tac = 0) ∧
    (let t : Timer := ⟨0x000F, 0xFF, 0x42, 5, 0⟩
     t.timaReload = 0 ∧ t.tima = 0xFF ∧ t.tac.getLsbD 2 = true ∧ (t.divCounter.toNat + 1) % timaPeriod t.tac = 0) := by decide

/-- The clauses of a DIV and a TAC write: the signal falls with TIMA at 0xFF and below it, and does not fall. -/
theorem test_witness_TimerRegisterWrites :
    timerSig 0x0008 5 = true ∧ timerSig 0x0007 5 = false ∧ timerSig 0x0008 1 = false ∧ timerSig 0x0200 4 = true ∧
    timerSig 0x0200 5 = false := by decide

/-- Where a store does not reach: the next address, another cell of WRAM, the gap's own address, another cell of external RAM. -/
theorem test_witness_StoresReachOnlyTheirCells :
    storeReaches (withCode []) 0x8000 0x8001 = false ∧ storeReaches (withCode []) 0xC000 0xE001 = false ∧
    storeReaches (withCode []) 0xC000 0xE000 = true ∧ storeReaches (withCode []) 0xFEA0 0xFEA0 = false ∧
    storeReaches (withCode []) 0xFF04 0xFF06 = false ∧ storeReaches (withCode []) 0x2000 0x8000 = false ∧
    storeReaches (cartState .mbc2 512 ⟨1, 0, true, false⟩) 0xA000 0xA1FF = false ∧
    storeReaches (cartState .mbc2 512 ⟨1, 0, true, false⟩) 0xA000 0xA200 = true := by decide

/-- Both ends of every region of 20 R71. -/
theorem test_witness_ReadBackByRegion :
    ([0x0000, 0x3FFF, 0x4000, 0x7FFF, 0x8000, 0x9FFF, 0xA000, 0xBFFF, 0xC000, 0xDFFF, 0xE000, 0xFDFF, 0xFE00, 0xFE9F, 0xFEA0, 0xFEFF,
      0xFF00, 0xFF7F, 0xFF80, 0xFFFE, 0xFFFF] : List Word).map regionOf =
    [.rom0, .rom0, .romx, .romx, .vram, .vram, .extRam, .extRam, .wram, .wram, .echo, .echo, .oam, .oam, .gap, .gap, .io, .io, .hram,
      .hram, .ie] := by decide

theorem test_witness_EchoIsTheSameCell :
    (0xE000 ≤ (0xE000 : Word).toNat ∧ (0xE000 : Word).toNat ≤ 0xFDFF) ∧
    (0xE000 ≤ (0xFDFF : Word).toNat ∧ (0xFDFF : Word).toNat ≤ 0xFDFF) := by decide

/-- The variants, and the addresses where the decoding of a control write changes. -/
theorem test_witness_ControlWritesSetTheBankRegisters :
    (0x7FFF : Word).toNat ≤ 0x7FFF ∧
    (memWrite 0x1FFF 0x0A (cartState .mbc1 0 ⟨1, 0, false, false⟩)).mbc = ⟨1, 0, true, false⟩ ∧
    (memWrite 0x2000 0x00 (cartState .mbc1 0 ⟨3, 0, false, false⟩)).mbc = ⟨1, 0, false, false⟩ ∧
    (memWrite 0x4000 0xFF (cartState .mbc1 0 ⟨1, 0, false, false⟩)).mbc = ⟨1, 3, false, false⟩ ∧
    (memWrite 0x6000 0x01 (cartState .mbc1 0 ⟨1, 0, false, false⟩)).mbc = ⟨1, 0, false, true⟩ ∧
    (memWrite 0x3EFF 0x0A (cartState .mbc2 512 ⟨1, 0, false, false⟩)).mbc = ⟨1, 0, true, false⟩ ∧
    (memWrite 0x0100 0x1F (cartState .mbc2 512 ⟨1, 0, false, false⟩)).mbc = ⟨15, 0, false, false⟩ ∧
    (memWrite 0x3FFF 0x80 (cartState .mbc3 0 ⟨2, 0, false, false⟩)).mbc = ⟨1, 0, false, false⟩ ∧
    (memWrite 0x5FFF 0xFF (cartState .mbc3 0 ⟨1, 0, false, false⟩)).mbc = ⟨1, 15, false, false⟩ ∧
    (memWrite 0x2FFF 0x00 (cartState .mbc5 0 ⟨0x1FF, 0, false, false⟩)).mbc = ⟨0x100, 0, false, false⟩ ∧
    (memWrite 0x3000 0xFF (cartState .mbc5 0 ⟨0x034, 0, false, false⟩)).mbc = ⟨0x134, 0, false, false⟩ ∧
    (memWrite 0x7FFF 0x01 (cartState .romOnly 0 ⟨1, 0, false, false⟩)).mbc = ⟨1, 0, false, false⟩ := by decide

theorem test_witness_RomWindowsShowTheImage :
    (0x3FFF : Word).toNat ≤ 0x3FFF ∧ (0x4000 ≤ (0x4000 : Word).toNat ∧ (0x4000 : Word).toNat ≤ 0x7FFF) ∧
    (0x4000 ≤ (0x7FFF : Word).toNat ∧ (0x7FFF : Word).toNat ≤ 0x7FFF) := by decide

theorem test_witness_ExternalRamAccess :
    (0xA000 ≤ (0xA000 : Word).toNat ∧ (0xBFFF : Word).toNat ≤ 0xBFFF) ∧
    (let s := cartState .mbc5 0x2000 ⟨1, 0, false, false⟩
     s.cart.kind ≠ .romOnly ∧ s.mbc.ramEnable = false) ∧
    (let s := cartState .romOnly 0 ⟨1, 0, false, false⟩
     s.cart.kind = .romOnly ∧ s.cart.ramSize = 0) ∧
    (let s := cartState .mbc1 0 ⟨1, 0, true, false⟩
     (s.cart.kind = .mbc1 ∨ s.cart.kind = .mbc5) ∧ s.mbc.ramEnable = true ∧ s.cart.ramSize = 0) ∧
    (let s := cartState .mbc5 0 ⟨1, 15, true, false⟩
     (s.cart.kind = .mbc1 ∨ s.cart.kind = .mbc5) ∧ s.mbc.ramEnable = true ∧ s.cart.ramSize = 0) ∧
    (let s := cartState .mbc3 0 ⟨1, 7, true, false⟩
     s.cart.kind = .mbc3 ∧ s.mbc.ramEnable = true ∧ s.mbc.ramBank.toNat ≤ 0x07 ∧ s.cart.ramSize = 0) ∧
    (let s := cartState .romOnly 2048 ⟨1, 0, false, false⟩
     s.cart.kind = .romOnly ∧ 0 < s.cart.ramSize) ∧
    (let s := cartState .mbc1 0x8000 ⟨1, 3, true, true⟩
     (s.cart.kind = .mbc1 ∨ s.cart.kind = .mbc5) ∧ s.mbc.ramEnable = true ∧ 0 < s.cart.ramSize) ∧
    (let s := cartState .mbc5 0x20000 ⟨1, 15, true, false⟩
     (s.cart.kind = .mbc1 ∨ s.cart.kind = .mbc5) ∧ s.mbc.ramEnable = true ∧ 0 < s.cart.ramSize) ∧
    (let s := cartState .mbc2 512 ⟨1, 0, true, false⟩
     s.cart.kind = .mbc2 ∧ s.mbc.ramEnable = true ∧ (0xBE00 : Word).toNat % 512 = (0xA000 : Word).toNat % 512) ∧
    (let s := cartState .mbc3 0x8000 ⟨1, 7, true, false⟩
     s.cart.kind = .mbc3 ∧ s.mbc.ramEnable = true ∧ s.mbc.ramBank.toNat ≤ 0x07 ∧ 0 < s.cart.ramSize) := by decide

/-- The cell shown at the window's ends: MBC1's bank 3 in mode 1 and bank 0 in mode 0, MBC5's bank 15 of four, a 2 KiB RAM mirrored. -/
theorem test_witness_ExternalRamAccess_cells :
    ramCellAt (cartState .mbc1 0x8000 ⟨1, 3, true, true⟩) 0xBFFF = 0x7FFF ∧
    ramCellAt (cartState .mbc1 0x8000 ⟨1, 3, true, false⟩) 0xA000 = 0x0000 ∧
    ramCellAt (cartState .mbc5 0x8000 ⟨1, 15, true, false⟩) 0xA000 = 0x6000 ∧
    ramCellAt (cartState .mbc3 2048 ⟨1, 7, true, false⟩) 0xA800 = 0x0000 := by decide

theorem test_witness_ClockRegistersReadTheDraw :
    (let s := cartState .mbc3 0x8000 ⟨1, 8, true, false⟩
     s.cart.kind = .mbc3 ∧ s.mbc.ramEnable = true ∧ 0x08 ≤ s.mbc.ramBank.toNat ∧ s.mbc.ramBank.toNat ≤ 0x0C) ∧
    (let s := cartState .mbc3 0x8000 ⟨1, 12, true, false⟩
     s.cart.kind = .mbc3 ∧ s.mbc.ramEnable = true ∧ 0x08 ≤ s.mbc.ramBank.toNat ∧ s.mbc.ramBank.toNat ≤ 0x0C) ∧
    (let s := cartState .mbc3 0x8000 ⟨1, 13, true, false⟩
     s.cart.kind = .mbc3 ∧ s.mbc.ramEnable = true ∧ 0x0D ≤ s.mbc.ramBank.toNat) := by decide

/-- Each check of `load` fails on some image, and one image passes all. -/
theorem test_witness_LoadChecksInOrder :
    (smallImage.take 0x14F).length < 0x0150 ∧ 0x0150 ≤ smallImage.length ∧
    checksumOf smallImage = (smallImage.getD 0x014D 0).toNat ∧
    checksumOf (List.replicate 0x150 0x00) ≠ ((List.replicate 0x150 (0x00 : Byte)).getD 0x014D 0).toNat := by decide +kernel

/-- The header of an image without RAM, one with MBC2 whose code is ignored, and ones with a type byte or a code of neither table. -/
theorem test_witness_LoadChecksInOrder_selects :
    selects smallImage .romOnly 0 ∧ selects ((smallImage.set 0x147 0x06).set 0x149 0xFF) .mbc2 512 ∧
    selects ((smallImage.set 0x147 0x1E).set 0x149 0x05) .mbc5 65536 ∧
    (∀ x ∈ cartridgeTypes, x.1 ≠ 0x04) ∧ ∀ x ∈ ramSizeCodes, x.1 ≠ 0x06 :=
  ⟨⟨false, by decide +kernel, .inr ⟨by decide, 0, by decide +kernel, rfl⟩⟩, ⟨true, by decide +kernel, .inl ⟨rfl, rfl⟩⟩,
    ⟨true, by decide +kernel, .inr ⟨by decide, 65536, by decide +kernel, rfl⟩⟩, by decide, by decide⟩

theorem test_witness_LoadCreatesTheResetState : ∃ s, load smallImage someDraws = .ok s := by
  have ok := test_load_small_image
  unfold loadError at ok
  split at ok
  · rename_i s loaded
    exact ⟨s, loaded⟩
  · cases ok

theorem test_witness_LoadCreatesTheResetState_draws : 
    drawsCanonical someDraws 0 ∧ (0x14F : Nat) < 0x4000 ∧ 0x14F < smallImage.length := by
  refine ⟨?_, by decide, by decide +kernel⟩
  simp only [drawsCanonical]
  decide

theorem test_witness_HostOperations : (4 ≤ 4) ∧ 4 < 5 ∧ (0 ≤ 4) := by decide

/-- The state of the step witnesses meets every invariant, and its step answers a next state. -/
theorem test_witness_invariants :
    FlagNibbleZero (withCode [0x3C]) ∧ CountersInRange (withCode [0x3C]) ∧ InterruptControlConsistent (withCode [0x3C]) ∧
    MemoryCanonical (withCode [0x3C]) ∧ BankRegistersInRange (withCode [0x3C]) ∧ stepGives (withCode [0x3C]) (fun _ => true) = true :=
  ⟨by decide, by decide, by decide, by decide, rfl, by decide⟩

/-- The bank registers' ranges are met at their ends, by each variant. -/
theorem test_witness_StepKeepsBankRegisters :
    BankRegistersInRange (cartState .mbc1 0 ⟨0x1F, 3, true, true⟩) ∧ BankRegistersInRange (cartState .mbc2 512 ⟨0x0F, 0, true, false⟩) ∧
    BankRegistersInRange (cartState .mbc3 0 ⟨0x7F, 15, true, false⟩) ∧ BankRegistersInRange (cartState .mbc5 0 ⟨0, 15, true, false⟩) := by
  simp only [BankRegistersInRange, cartState]
  decide

end Sys2Proof.Tests
end

section
/-!
The invariants that every step keeps. First the rules they rest on: what a store leaves of the image and the bank registers, which
values a control write can leave, what an instruction can leave (`exec_result`), and that no clock takes the reload countdown out of
its range. An invariant of the bus state then follows by `step_preserves`, one of the control state by `step_keeps`.
-/

namespace Sys2Proof.Machine

open Sys2Proof

/-! ## What a store leaves of the image and the bank registers -/

@[simp] theorem extRamWrite_rom (off : Nat) (v : Byte) (s : State) : (extRamWrite off v s).mem.rom = s.mem.rom := by
  unfold extRamWrite; split <;> rfl

@[simp] theorem extRamWrite_mbc (off : Nat) (v : Byte) (s : State) : (extRamWrite off v s).mbc = s.mbc := by
  unfold extRamWrite; split <;> rfl

@[simp] theorem extRamWrite_timer (off : Nat) (v : Byte) (s : State) : (extRamWrite off v s).timer = s.timer := by
  unfold extRamWrite; split <;> rfl

@[simp] theorem ioWrite_rom (a : Nat) (v : Byte) (s : State) : (ioWrite a v s).mem.rom = s.mem.rom := by
  unfold ioWrite; split_ifs <;> simp

@[simp] theorem ioWrite_mbc (a : Nat) (v : Byte) (s : State) : (ioWrite a v s).mbc = s.mbc := by
  unfold ioWrite; split_ifs <;> simp

/-- No store changes the ROM image (20 R76). -/
@[simp] theorem memWrite_rom (a : Word) (v : Byte) (s : State) : (memWrite a v s).mem.rom = s.mem.rom := by
  unfold memWrite; split <;> simp

/-- A store to the ROM range is a control write, and no other store changes the bank registers (20 R76). -/
theorem memWrite_mbc (a : Word) (v : Byte) (s : State) :
    (memWrite a v s).mbc = if a.toNat ≤ 0x7FFF then mbcControl s.cart.kind a.toNat v s.mbc else s.mbc := by
  have bounds := region_bounds a
  unfold memWrite
  split <;> rename_i region <;> simp only [region] at bounds
  case h_1 => rw [if_pos (by omega)]
  case h_2 => rw [if_pos (by omega)]
  all_goals rw [if_neg (by omega)]
  all_goals simp

/-! ## The ranges of the bank registers -/

theorem bankNotZero_pos (v : Byte) : 1 ≤ (bankNotZero v).toNat := by
  unfold bankNotZero
  split <;> [decide; bv_omega]

theorem bankNotZero_le {v : Byte} {n : Nat} (hn : 1 ≤ n) (hv : v.toNat ≤ n) : (bankNotZero v).toNat ≤ n := by
  unfold bankNotZero
  split
  · exact hn
  · simp; omega

theorem toNat_and_le (v mask : Byte) : (v &&& mask).toNat ≤ mask.toNat := by
  rw [BitVec.toNat_and]
  exact Nat.and_le_right

/-- A masked bank number after the zero-to-one substitution is from 1 to the mask. -/
theorem bankNotZero_and_range (v : Byte) {mask : Byte} (hmask : 1 ≤ mask.toNat) :
    1 ≤ (bankNotZero (v &&& mask)).toNat ∧ (bankNotZero (v &&& mask)).toNat ≤ mask.toNat :=
  ⟨bankNotZero_pos _, bankNotZero_le hmask (toNat_and_le v mask)⟩

/-- What `BankRegistersInRange` asks depends on the variant and the bank registers alone. -/
theorem BankRegistersInRange.congr {s t : State} (h : BankRegistersInRange s) (hk : t.cart.kind = s.cart.kind)
    (hm : t.mbc = s.mbc) : BankRegistersInRange t := by
  unfold BankRegistersInRange at h ⊢
  rw [hk, hm]
  exact h

/-- A control write leaves values its variant's registers can hold (20 R114, R117, R120, R123). -/
theorem BankRegistersInRange.control (a : Nat) (v : Byte) {s : State} (h : BankRegistersInRange s) :
    BankRegistersInRange { s with mbc := mbcControl s.cart.kind a v s.mbc } := by
  unfold BankRegistersInRange at h ⊢
  cases hk : s.cart.kind <;> simp only [hk, mbcControl] at h ⊢
  case romOnly => exact h
  case mbc1 =>
    obtain ⟨lo, hi, ram⟩ := h
    unfold mbc1Control
    split_ifs
    · exact ⟨lo, hi, ram⟩
    · have range := bankNotZero_and_range v (mask := 0x1F) (by decide)
      exact ⟨range.1, range.2, ram⟩
    · have masked : ((v &&& 0x03).setWidth 4).toNat ≤ 3 := by
        rw [BitVec.toNat_setWidth]
        exact (Nat.mod_le _ _).trans (toNat_and_le v 0x03)
      exact ⟨lo, hi, masked⟩
    · exact ⟨lo, hi, ram⟩
  case mbc2 =>
    obtain ⟨lo, hi, ram, mode⟩ := h
    unfold mbc2Control
    split_ifs
    · have range := bankNotZero_and_range v (mask := 0x0F) (by decide)
      exact ⟨range.1, range.2, ram, mode⟩
    · exact ⟨lo, hi, ram, mode⟩
    · exact ⟨lo, hi, ram, mode⟩
  case mbc3 =>
    obtain ⟨lo, hi, mode⟩ := h
    unfold mbc3Control
    split_ifs
    · exact ⟨lo, hi, mode⟩
    · have range := bankNotZero_and_range v (mask := 0x7F) (by decide)
      exact ⟨range.1, range.2, mode⟩
    · exact ⟨lo, hi, mode⟩
    · exact ⟨lo, hi, mode⟩
  case mbc5 =>
    unfold mbc5Control
    split_ifs <;> exact h

theorem BankRegistersInRange.store (a : Word) (v : Byte) {s : State} (h : BankRegistersInRange s) :
    BankRegistersInRange (memWrite a v s) := by
  have written := memWrite_mbc a v s
  have kind : (memWrite a v s).cart.kind = s.cart.kind := by rw [memWrite_cart]
  split_ifs at written
  · exact (h.control a.toNat v).congr kind written
  · exact h.congr kind written

/-! ## The invariants of the bus state -/

/-- Settles O58: no other store than a control write reaches the bank registers, and a control write keeps their ranges. -/
theorem stepKeepsBankRegisters : Obligations.StepKeepsBankRegisters := by
  intro s t inRange stepped
  exact step_preserves (fun _ _ _ hcart hmbc h => h.congr (by rw [hcart]) hmbc) (fun a v _ h => h.store a v) inRange stepped

/-- Settles O57: every store stays within its array and keeps the canonical form. -/
theorem stepKeepsMemoryCanonical : Obligations.StepKeepsMemoryCanonical := by
  intro s t canonical stepped
  refine step_preserves (fun _ _ hmem hcart _ h => ?_) (fun a v _ h => memWrite_wf a v h) canonical stepped
  unfold MemoryCanonical at h ⊢
  rw [hmem, hcart]
  exact h

/-- Settles O59: no store reaches the image or the cartridge, and nothing else of a step writes the bus. -/
theorem stepNeverChangesTheCartridge : Obligations.StepNeverChangesTheCartridge := by
  intro s t stepped
  refine step_preserves (P := fun u => u.mem.rom = s.mem.rom ∧ u.cart = s.cart) (fun u w hmem hcart _ h => ?_) (fun a v u h => ?_)
    ⟨rfl, rfl⟩ stepped
  · rw [hmem, hcart]
    exact h
  · rw [memWrite_rom, memWrite_cart]
    exact h

/-! ## What an instruction leaves -/

/-- `ExecResult i s t`: the ways in which instruction `i` takes `s` to `t`, with the guards under which it takes each. -/
inductive ExecResult (i : Instr) (s : State) : State → Prop where
  | raises (op : Byte) (hi : (i, op) ∈ Families.illegalOpcodes ∨ ∃ n, i = .stop n ∧ op = 0x10) :
      ExecResult i s { s with failure := some ⟨s.regs.pc, op⟩ }
  | raisesHaltBug (hi : i = .halt) (off : s.ime = false) (pending : pendingInterrupts s ≠ 0) :
      ExecResult i s { afterFetch 1 s with haltBug := true, cycles := 1 }
  | halts (hi : i = .halt) (quiet : ¬(s.ime = false ∧ pendingInterrupts s ≠ 0)) :
      ExecResult i s { afterFetch 1 s with halted := true, cycles := 1 }
  | disables (hi : i = .di) : ExecResult i s { afterFetch 1 s with ime := false, imeDelay := 0, cycles := 1 }
  | defers (hi : i = .ei) (off : s.ime = false) (idle : s.imeDelay = 0) :
      ExecResult i s { afterFetch 1 s with imeDelay := 2, cycles := 1 }
  | returns (hi : i = .reti) : ExecResult i s { returnFromInterrupt (afterFetch 1 s) with cycles := 4 }
  | plain {t : State} (len : Nat) (hlen : 1 ≤ len) (h : Effects (afterFetch len s) t) : ExecResult i s t

/-- Every instruction that answers a next state does so in one of these ways. -/
theorem exec_result {i : Instr} {s t : State} (h : exec i s = .next t) : ExecResult i s t := by
  rcases exec_cases i s with ⟨op, illegal, e⟩ | rfl | rfl | rfl | rfl | ⟨len, u, hlen, e, effects⟩
  · cases e.symm.trans h
    exact .raises op illegal
  · rcases haltCpu_cases s with ⟨off, pending, e⟩ | ⟨quiet, e⟩ <;> cases e.symm.trans h
    · exact .raisesHaltBug rfl off pending
    · exact .halts rfl quiet
  · cases h
    exact .disables rfl
  · rcases enableInterrupts_cases s with ⟨off, idle, e⟩ | ⟨_, e⟩ <;> cases e.symm.trans h
    · exact .defers rfl off idle
    · exact .plain 1 (le_refl _) (.cycles 1 .refl)
  · cases h
    exact .returns rfl
  · cases e.symm.trans h
    exact .plain len hlen effects

/-- Settles O39: HALT, DI, EI and RETI are the only instructions with an effect that reaches the interrupt control. -/
theorem onlyTheseWriteInterruptControl : Obligations.OnlyTheseWriteInterruptControl := by
  intro i s t run
  cases exec_result run with
  | raises => simp +contextual
  | raisesHaltBug hi => simp [hi]
  | halts hi => simp [hi]
  | disables hi => simp [hi]
  | defers hi => simp [hi]
  | returns hi => simp [hi, returnFromInterrupt]
  | plain len _ effects =>
    obtain ⟨ime, imeDelay, halted, haltBug, failure, _⟩ := effects.keeps
    simp [ime, imeDelay, halted, haltBug, failure]

/-- A property that the wait of the halted step, the executed instruction and the end of a step keep is kept by every step. -/
theorem step_keeps {P : State → Prop} (hwait : ∀ s : State, P s → P { s with cycles := 1 })
    (hexec : ∀ i s t, s.halted = false → exec i s = .next t → P s → P t) (hend : ∀ s, P s → P (endOfStep s)) {s t : State}
    (stepped : step s = .next t) (h : P s) : P t := by
  obtain ⟨_, ⟨_, rfl⟩ | ⟨awake, u, run, ⟨_, rfl⟩ | ⟨_, rfl⟩⟩⟩ := step_cases stepped
  · exact hend _ (hwait s h)
  · exact hend u (hexec _ s u awake run h)
  · exact hexec _ s t awake run h

/-! ## The counters and F's low nibble -/

theorem timaIncrement_reload_le {t : Timer} (h : t.timaReload ≤ 4) : (timaIncrement t).1.timaReload ≤ 4 := by
  unfold timaIncrement
  split <;> [exact le_refl 4; exact h]

theorem timerEdge_reload_le (old : Bool) {t : Timer} (h : t.timaReload ≤ 4) : (timerEdge old t).1.timaReload ≤ 4 := by
  unfold timerEdge
  split
  · exact timaIncrement_reload_le h
  · exact h

theorem timerReloadTick_reload (t : Timer) : (timerReloadTick t).timaReload = t.timaReload - 1 := by
  unfold timerReloadTick
  split_ifs <;> simp [*]

theorem timerTick_reload_le {t : Timer} (h : t.timaReload ≤ 4) : (timerTick t).1.timaReload ≤ 4 := by
  have ticked := timerReloadTick_reload t
  exact timerEdge_reload_le _ (by dsimp only; omega)

/-- No number of clocks takes the reload countdown past 4 (10 R50). -/
theorem timerRun_reload_le (n : Nat) {t : Timer} (h : t.timaReload ≤ 4) : (timerRun n t).1.timaReload ≤ 4 := by
  induction n generalizing t with
  | zero => exact h
  | succ n ih => exact ih (timerTick_reload_le h)

theorem ioWrite_reload_le (a : Nat) (v : Byte) {s : State} (h : s.timer.timaReload ≤ 4) :
    (ioWrite a v s).timer.timaReload ≤ 4 := by
  unfold ioWrite
  split_ifs
  · rw [withTimer_timer]
    exact timerEdge_reload_le _ h
  · exact Nat.zero_le 4
  · exact h
  · rw [withTimer_timer]
    exact timerEdge_reload_le _ h
  · exact h
  · exact h

theorem memWrite_reload_le (a : Word) (v : Byte) {s : State} (h : s.timer.timaReload ≤ 4) :
    (memWrite a v s).timer.timaReload ≤ 4 := by
  unfold memWrite
  split
  case h_4 => rwa [extRamWrite_timer]
  case h_9 => exact ioWrite_reload_le a.toNat v h
  all_goals exact h

/-- F's low nibble is zero and the two counters are in range (10 R34, R39, R50). -/
abbrev FlagNibbleAndCounters (s : State) : Prop := FlagNibbleZero s ∧ CountersInRange s

theorem and_F0_and_0F (v : Byte) : v &&& 0xF0 &&& 0x0F = 0 := by
  rw [BitVec.and_assoc]
  exact BitVec.and_zero

theorem FlagNibbleAndCounters.effects_keep {s t : State} (h : FlagNibbleAndCounters s) (e : Effects s t) :
    FlagNibbleAndCounters t := by
  refine e.preserves (P := FlagNibbleAndCounters) ?_ ?_ ?_ ?_ ?_ ?_ ?_ h
  · exact fun _ _ h => h
  · exact fun _ _ h => h
  · intro r v u h
    cases r <;> exact h
  · exact fun v _ h => ⟨and_F0_and_0F v, h.2⟩
  · exact fun g _ h => ⟨byteOfFlags_lowNibble g, h.2⟩
  · intro a v u ⟨nibble, delay, reload⟩
    exact ⟨by rwa [FlagNibbleZero, memWrite_regs], by rwa [memWrite_imeDelay], memWrite_reload_le a v reload⟩
  · exact fun _ _ h => h

theorem FlagNibbleAndCounters.exec_keeps {i : Instr} {s t : State} (h : FlagNibbleAndCounters s) (run : exec i s = .next t) :
    FlagNibbleAndCounters t := by
  obtain ⟨nibble, delay, reload⟩ := h
  cases exec_result run with
  | raises => exact ⟨nibble, delay, reload⟩
  | raisesHaltBug => exact ⟨nibble, delay, reload⟩
  | halts => exact ⟨nibble, delay, reload⟩
  | disables => exact ⟨nibble, Nat.zero_le 2, reload⟩
  | defers => exact ⟨nibble, le_refl 2, reload⟩
  | returns => exact ⟨nibble, Nat.zero_le 2, reload⟩
  | plain len _ effects =>
    have fetched : FlagNibbleAndCounters (afterFetch len s) := ⟨nibble, delay, reload⟩
    exact fetched.effects_keep effects

theorem FlagNibbleAndCounters.timerAdvance_keeps (n : Nat) {s : State} (h : FlagNibbleAndCounters s) :
    FlagNibbleAndCounters (timerAdvance n s) := by
  obtain ⟨nibble, delay, reload⟩ := h
  rw [timerAdvance_eq]
  exact ⟨nibble, delay, timerRun_reload_le n reload⟩

theorem FlagNibbleAndCounters.service_keeps (k : Nat) {s : State} (h : FlagNibbleAndCounters s) :
    FlagNibbleAndCounters (service k s) := by
  obtain ⟨nibble, _, reload⟩ := h
  have cleared : FlagNibbleAndCounters { s with ime := false, imeDelay := 0, haltBug := false } :=
    ⟨nibble, Nat.zero_le 2, reload⟩
  have pushed := cleared.effects_keep (.push (serviceReturn s) .refl)
  have entered : FlagNibbleAndCounters (enterInterrupt k s) := pushed
  exact entered.timerAdvance_keeps 20

theorem FlagNibbleAndCounters.endOfStep_keeps {s : State} (h : FlagNibbleAndCounters s) :
    FlagNibbleAndCounters (endOfStep s) := by
  obtain ⟨nibble, delay, reload⟩ := h
  have checked : FlagNibbleAndCounters (beforeCheck s) :=
    ⟨nibble, (Nat.sub_le _ 1).trans delay, timerRun_reload_le _ reload⟩
  rw [endOfStep_eq]
  unfold interruptCheck
  split_ifs
  · exact checked
  · have awake : FlagNibbleAndCounters { beforeCheck s with halted := false } := checked
    exact awake.service_keeps _
  · exact checked

/-- Settles O55: each of the parts of a step keeps the invariant. -/
theorem stepKeepsFlagNibbleAndCounters : Obligations.StepKeepsFlagNibbleAndCounters := by
  intro s t nibble counters stepped
  exact step_keeps (P := FlagNibbleAndCounters) (fun _ h => h) (fun _ _ _ _ run h => h.exec_keeps run)
    (fun _ h => h.endOfStep_keeps) stepped ⟨nibble, counters⟩

end Sys2Proof.Machine
end

section
/-!
Power-on: what `load` answers, the header's tables, and the reset state that a load creates.
-/

namespace Sys2Proof.Machine

open Sys2Proof Sys2Proof.Statements

/-- The model's decoding of the cartridge-type byte is the table of 20 R110. -/
theorem variantOf_eq_some_iff {t : Byte} {k : MbcKind} {hasRam : Bool} :
    variantOf t = some (k, hasRam) ↔ (t, k, hasRam) ∈ cartridgeTypes := by
  constructor
  · have byte : t = BitVec.ofNat 8 t.toNat := by simp
    unfold variantOf
    split <;> rename_i code
    case h_20 => simp
    all_goals
      rw [code] at byte
      subst byte
      rintro ⟨⟩
      decide
  · have rows : ∀ row ∈ cartridgeTypes, variantOf row.1 = some row.2 := by decide
    exact rows (t, k, hasRam)

/-- The model's decoding of the RAM-size code is the table of 20 R112. -/
theorem ramSizeOfCode_eq_some_iff {c : Byte} {n : Nat} : ramSizeOfCode c = some n ↔ (c, n) ∈ ramSizeCodes := by
  constructor
  · have byte : c = BitVec.ofNat 8 c.toNat := by simp
    unfold ramSizeOfCode
    split <;> rename_i code
    case h_7 => simp
    all_goals
      rw [code] at byte
      subst byte
      rintro ⟨⟩
      decide
  · have rows : ∀ row ∈ ramSizeCodes, ramSizeOfCode row.1 = some row.2 := by decide
    exact rows (c, n)

/-- `RAM_SIZE` as `selects` has it: MBC2's 512 cells, or the size of a code of the table where RAM is present. -/
theorem ramSizeFor_eq_some_iff {k : MbcKind} {hasRam : Bool} {c : Byte} {size : Nat} :
    ramSizeFor k hasRam c = some size ↔
      k = .mbc2 ∧ size = 512 ∨ k ≠ .mbc2 ∧ ∃ n, (c, n) ∈ ramSizeCodes ∧ size = if hasRam = true then n else 0 := by
  unfold ramSizeFor
  split
  · next mbc2 => simp [mbc2, eq_comm]
  · next other => simp [other, ← ramSizeOfCode_eq_some_iff, eq_comm (a := size)]

/-- The header selects a variant and a RAM size exactly where the two decodings of `load` find them. -/
theorem selects_iff {image : List Byte} {k : MbcKind} {size : Nat} :
    selects image k size ↔ ∃ hasRam, variantOf (imageByte image 0x0147) = some (k, hasRam) ∧
      ramSizeFor k hasRam (imageByte image 0x0149) = some size := by
  simp only [variantOf_eq_some_iff, ramSizeFor_eq_some_iff]
  rfl

/-- `load` answers a machine exactly where every check passes: the fresh one of what the header selects (70 R476). -/
theorem load_eq_ok_iff {image : List Byte} {d : Draws} {s : State} :
    load image d = .ok s ↔ 0x0150 ≤ image.length ∧ headerChecksum image = imageByte image 0x014D ∧
      ∃ k size, selects image k size ∧ s = freshInstance image k size d := by
  constructor
  · intro loaded
    unfold load at loaded
    split_ifs at loaded with short mismatch
    split at loaded
    · cases loaded
    · next v variant =>
      split at loaded
      · cases loaded
      · next size ram =>
        cases loaded
        exact ⟨not_lt.mp short, not_not.mp mismatch, v.1, size, selects_iff.mpr ⟨v.2, variant, ram⟩, rfl⟩
  · rintro ⟨long, sum, k, size, selected, rfl⟩
    obtain ⟨hasRam, variant, ram⟩ := selects_iff.mp selected
    simp [load, long, sum, variant, ram]

theorem memRead_of_le_3FFF {a : Word} (s : State) (h : a.toNat ≤ 0x3FFF) :
    memRead a s = romRead s (bank0 s.cart.kind s.mbc) a.toNat := by
  have region : regionOf a = .rom0 := if_pos h
  unfold memRead
  rw [region]

/-- Bank 0 shows the image from its first byte on (20 R111). -/
theorem romRead_zero {s : State} {off : Nat} (h : off < s.cart.romLen) : romRead s 0 off = cellsGet s.mem.rom off := by
  have offset : romOffset s.cart 0 off = off := by simp [romOffset]
  unfold romRead
  rw [offset, if_pos h]

/-- After a load the first window shows the image. -/
theorem freshInstance_memRead (image : List Byte) (k : MbcKind) (size : Nat) (d : Draws) {p : Nat} (window : p < 0x4000)
    (inside : p < image.length) : memRead (BitVec.ofNat 16 p) (freshInstance image k size d) = image.getD p 0 := by
  have address : (BitVec.ofNat 16 p).toNat = p := Nat.mod_eq_of_lt (by omega)
  have bank : bank0 k (freshInstance image k size d).mbc = 0 := by cases k <;> rfl
  have listed := cellsGet_ofBytes image 0 p inside
  rw [Nat.zero_add] at listed
  rw [memRead_of_le_3FFF _ (by omega), address]
  change romRead _ (bank0 k _) p = _
  rw [bank, romRead_zero inside]
  exact listed

/-- With canonical draws a load creates canonical memory. -/
theorem freshInstance_canonical {image : List Byte} {k : MbcKind} {size : Nat} {d : Draws} (sel : selects image k size)
    (draws : drawsCanonical d size) : MemoryCanonical (freshInstance image k size d) := by
  obtain ⟨vram, extRam, wram, oam, io, hram, coreIo⟩ := draws
  have rom := cellsOfBytes_wf image 0
  rw [Nat.zero_add] at rom
  refine ⟨⟨rom, vram, extRam, wram, oam, io, hram, coreIo⟩, fun mbc2 => ?_⟩
  obtain ⟨_, _, ⟨_, cells⟩ | ⟨other, _⟩⟩ := sel
  · exact cells
  · exact absurd mbc2 other

/-! ## Load and reset -/

/-- Settles O53: the table of 10 R56 row by row. -/
theorem resetValues : Obligations.ResetValues := by
  unfold Obligations.ResetValues
  exact ⟨rfl, rfl, rfl, rfl, rfl, rfl, rfl, rfl, rfl, rfl, rfl, rfl, rfl⟩

/-- Settles O60: the empty cartridge slot has no array entry and no bank register to be out of range. -/
theorem resetMeetsTheInvariants : Obligations.ResetMeetsTheInvariants := by
  unfold Obligations.ResetMeetsTheInvariants
  exact ⟨by decide, by decide, by decide, ⟨reset_memory_wf, nofun⟩, rfl⟩

/-- Settles O52: a load creates the fresh machine of what the header selects, whose registers are those of `State.reset`. -/
theorem loadCreatesTheResetState : Obligations.LoadCreatesTheResetState := by
  intro image d s loaded
  obtain ⟨_, _, k, size, sel, rfl⟩ := load_eq_ok_iff.mp loaded
  exact ⟨rfl, rfl, rfl, rfl, rfl, rfl, rfl, rfl, rfl, rfl, rfl, rfl, sel, rfl, rfl, rfl, rfl, rfl, rfl, rfl, rfl, rfl, rfl, rfl,
    fun _ => freshInstance_memRead image k size d, freshInstance_canonical sel⟩

end Sys2Proof.Machine
end

section
/-!
The rules of the bus, by region: which addresses a region has, what a read of it shows, what a store to it changes, and what a store
leaves of each array and register. The statements about memory go through these.
-/

namespace Sys2Proof.Machine

open Sys2Proof

/-! ## The address map -/

/-- The addresses of a region, as the table of 20 R71 gives them. -/
abbrev Region.Spans (r : Region) (n : Nat) : Prop :=
  match r with
  | .rom0 => n ≤ 0x3FFF
  | .romx => 0x4000 ≤ n ∧ n ≤ 0x7FFF
  | .vram => 0x8000 ≤ n ∧ n ≤ 0x9FFF
  | .extRam => 0xA000 ≤ n ∧ n ≤ 0xBFFF
  | .wram => 0xC000 ≤ n ∧ n ≤ 0xDFFF
  | .echo => 0xE000 ≤ n ∧ n ≤ 0xFDFF
  | .oam => 0xFE00 ≤ n ∧ n ≤ 0xFE9F
  | .gap => 0xFEA0 ≤ n ∧ n ≤ 0xFEFF
  | .io => 0xFF00 ≤ n ∧ n ≤ 0xFF7F
  | .hram => 0xFF80 ≤ n ∧ n ≤ 0xFFFE
  | .ie => n = 0xFFFF

/-- No address is in two regions. -/
theorem Region.Spans.unique {r q : Region} {n : Nat} (hr : r.Spans n) (hq : q.Spans n) : r = q := by
  cases r <;> cases q <;> simp only [reduceCtorEq] <;> omega

theorem regionOf_spans {a : Word} {r : Region} (h : regionOf a = r) : r.Spans a.toNat := by
  subst h
  exact region_bounds a

theorem regionOf_eq {a : Word} (r : Region) (h : r.Spans a.toNat) : regionOf a = r := (regionOf_spans rfl).unique h

/-- The ROM range is the two ROM windows. -/
theorem regionOf_rom {a : Word} (h : a.toNat ≤ 0x7FFF) : regionOf a = .rom0 ∨ regionOf a = .romx := by
  rcases Nat.lt_or_ge 0x3FFF a.toNat with high | low
  · exact .inr (regionOf_eq .romx ⟨high, h⟩)
  · exact .inl (regionOf_eq .rom0 low)

/-! ## What a read shows -/

section Reads

variable {a : Word}

theorem memRead_of_romx (h : regionOf a = .romx) (s : State) :
    memRead a s = romRead s (bankN s.cart.kind s.mbc) (a.toNat - 0x4000) := by
  rw [memRead, h]

theorem memRead_of_vram (h : regionOf a = .vram) (s : State) : memRead a s = cellsGet s.mem.vram (a.toNat - 0x8000) := by
  rw [memRead, h]

theorem memRead_of_extRam (h : regionOf a = .extRam) (s : State) : memRead a s = extRamRead s (a.toNat - 0xA000) := by
  rw [memRead, h]

/-- WRAM and its echo show the same cells (20 R82). -/
theorem memRead_of_wramCell (h : regionOf a = .wram ∨ regionOf a = .echo) (s : State) :
    memRead a s = cellsGet s.mem.wram (wramCell a) := by
  rcases h with h | h <;> simp [memRead, wramCell, h]

theorem memRead_of_oam (h : regionOf a = .oam) (s : State) : memRead a s = cellsGet s.mem.oam (a.toNat - 0xFE00) := by
  rw [memRead, h]

theorem memRead_of_gap (h : regionOf a = .gap) (s : State) : memRead a s = 0xFF := by
  rw [memRead, h]
  rfl

theorem memRead_of_io (h : regionOf a = .io) (s : State) : memRead a s = ioRead a.toNat s := by
  rw [memRead, h]

theorem memRead_of_hram (h : regionOf a = .hram) (s : State) : memRead a s = cellsGet s.mem.hram (a.toNat - 0xFF80) := by
  rw [memRead, h]

theorem memRead_of_ie (h : regionOf a = .ie) (s : State) : memRead a s = 0xE0 ||| s.ie.setWidth 8 := by
  rw [memRead, h]

end Reads

/-! ## What a store changes -/

/-- A store to the ROM range is a control write and changes nothing else (20 R76). -/
theorem memWrite_of_rom {a : Word} (h : a.toNat ≤ 0x7FFF) (v : Byte) (s : State) :
    memWrite a v s = { s with mbc := mbcControl s.cart.kind a.toNat v s.mbc } := by
  rcases regionOf_rom h with region | region <;> rw [memWrite, region]

theorem memWrite_of_extRam {a : Word} (h : regionOf a = .extRam) (v : Byte) (s : State) :
    memWrite a v s = extRamWrite (a.toNat - 0xA000) v s := by
  rw [memWrite, h]

theorem memWrite_of_wramCell {a : Word} (h : regionOf a = .wram ∨ regionOf a = .echo) (v : Byte) (s : State) :
    memWrite a v s = { s with mem := { s.mem with wram := cellsSet s.mem.wram (wramCell a) v } } := by
  rcases h with h | h <;> simp [memWrite, wramCell, h]

theorem memWrite_of_gap {a : Word} (h : regionOf a = .gap) (v : Byte) (s : State) : memWrite a v s = s := by
  rw [memWrite, h]

/-- A store to the external RAM window changes only its array. -/
theorem extRamWrite_eq (off : Nat) (v : Byte) (s : State) :
    extRamWrite off v s = { s with mem := { s.mem with extRam := (extRamWrite off v s).mem.extRam } } := by
  unfold extRamWrite
  split <;> rfl

/-- A store to the I/O region changes only the timer, IF and the plain I/O bytes. -/
theorem ioWrite_eq (a : Nat) (v : Byte) (s : State) :
    ioWrite a v s =
      { s with
        timer := (ioWrite a v s).timer
        iflag := (ioWrite a v s).iflag
        mem := { s.mem with io := (ioWrite a v s).mem.io } } := by
  unfold ioWrite
  simp only [withTimer_eq]
  split_ifs <;> rfl

/-! ## What a store leaves, array by array and register by register -/

/-- The memory arrays after a store. -/
theorem memWrite_mem (a : Word) (v : Byte) (s : State) :
    (memWrite a v s).mem =
      { rom := s.mem.rom
        vram := if regionOf a = .vram then cellsSet s.mem.vram (a.toNat - 0x8000) v else s.mem.vram
        extRam := if regionOf a = .extRam then (extRamWrite (a.toNat - 0xA000) v s).mem.extRam else s.mem.extRam
        wram := if regionOf a = .wram ∨ regionOf a = .echo then cellsSet s.mem.wram (wramCell a) v else s.mem.wram
        oam := if regionOf a = .oam then cellsSet s.mem.oam (a.toNat - 0xFE00) v else s.mem.oam
        io := if regionOf a = .io then (ioWrite a.toNat v s).mem.io else s.mem.io
        hram := if regionOf a = .hram then cellsSet s.mem.hram (a.toNat - 0xFF80) v else s.mem.hram } := by
  unfold memWrite
  cases h : regionOf a
  case extRam => exact congrArg State.mem (extRamWrite_eq _ v s)
  case io => exact congrArg State.mem (ioWrite_eq _ v s)
  all_goals simp [wramCell, h]

theorem memWrite_ie (a : Word) (v : Byte) (s : State) :
    (memWrite a v s).ie = if regionOf a = .ie then v.setWidth 5 else s.ie := by
  unfold memWrite
  cases h : regionOf a
  case extRam => rw [extRamWrite_eq]; rfl
  case io => rw [ioWrite_eq]; rfl
  all_goals rfl

/-- Only a store to the I/O region changes what the I/O region reads as. -/
theorem ioRead_memWrite (a : Word) (v : Byte) (s : State) (x : Nat) :
    ioRead x (memWrite a v s) = if regionOf a = .io then ioRead x (ioWrite a.toNat v s) else ioRead x s := by
  unfold memWrite
  cases h : regionOf a
  case extRam => rw [extRamWrite_eq]; rfl
  all_goals rfl

/-! ## The timer's registers -/

@[simp] theorem timerEdge_divCounter (old : Bool) (t : Timer) : (timerEdge old t).1.divCounter = t.divCounter := by
  unfold timerEdge timaIncrement; split_ifs <;> rfl

@[simp] theorem timerEdge_tma (old : Bool) (t : Timer) : (timerEdge old t).1.tma = t.tma := by
  unfold timerEdge timaIncrement; split_ifs <;> rfl

@[simp] theorem timerEdge_tac (old : Bool) (t : Timer) : (timerEdge old t).1.tac = t.tac := by
  unfold timerEdge timaIncrement; split_ifs <;> rfl

/-- A write to an I/O address changes what another one reads as only for DIV and TAC, which reach TIMA and IF (60 R433, R436). -/
theorem ioRead_ioWrite_ne {a x : Nat} (v : Byte) (s : State) (other : x ≠ a)
    (apart : a = 0xFF04 ∨ a = 0xFF07 → x ≠ 0xFF05 ∧ x ≠ 0xFF0F) : ioRead x (ioWrite a v s) = ioRead x s := by
  unfold ioWrite
  split_ifs with div tima tma tac iflag
  · obtain ⟨notTima, notIf⟩ := apart (.inl div)
    simp [ioRead, div ▸ other, notTima, notIf, timerWriteDiv]
  · simp [ioRead, tima ▸ other, timerWriteTima]
  · simp [ioRead, tma ▸ other, timerWriteTma]
  · obtain ⟨notTima, notIf⟩ := apart (.inr tac)
    simp [ioRead, tac ▸ other, notTima, notIf, timerWriteTac]
  · simp [ioRead, iflag ▸ other]
  · simp [ioRead, cellsGet_set_ne _ _ other]

/-! ## External RAM -/

theorem rtcSelected_iff {c : Cart} {m : Mbc} :
    rtcSelected c m = true ↔ c.kind = .mbc3 ∧ m.ramEnable = true ∧ 0x08 ≤ m.ramBank.toNat ∧ m.ramBank.toNat ≤ 0x0C := by
  simp [rtcSelected, and_assoc]

/-- An MBC3 window whose selection is above the RAM banks shows no cell (20 R122). -/
theorem extRamCell_of_clock {c : Cart} {m : Mbc} (kind : c.kind = .mbc3) (clock : 0x08 ≤ m.ramBank.toNat) (off : Nat) :
    extRamCell c m off = none := by
  have above : ¬m.ramBank.toNat ≤ 0x07 := by omega
  simp [extRamCell, kind, above]

/-- A read of the window depends on the cartridge, the bank registers and the array alone. -/
theorem extRamRead_congr {s t : State} (hcart : t.cart = s.cart) (hmbc : t.mbc = s.mbc) (hram : t.mem.extRam = s.mem.extRam)
    (off : Nat) : extRamRead t off = extRamRead s off := by
  unfold extRamRead
  rw [hcart, hmbc, hram]

section Window

variable {s : State} {off : Nat}

theorem extRamRead_of_rtcSelected (h : rtcSelected s.cart s.mbc = true) : extRamRead s off = s.cart.rtcRead := if_pos h

theorem extRamRead_of_some {p : Nat} (h : extRamCell s.cart s.mbc off = some p) :
    extRamRead s off = cellReads s.cart.kind (cellsGet s.mem.extRam p) := by
  have ram : ¬rtcSelected s.cart s.mbc = true := by
    intro selected
    obtain ⟨kind, _, clock, _⟩ := rtcSelected_iff.mp selected
    simp [extRamCell_of_clock kind clock] at h
  simp [extRamRead, ram, h]

theorem extRamWrite_of_some {p : Nat} (h : extRamCell s.cart s.mbc off = some p) (v : Byte) :
    extRamWrite off v s = { s with mem := { s.mem with extRam := cellsSet s.mem.extRam p (cellStores s.cart.kind v) } } := by
  simp [extRamWrite, h]

theorem extRamRead_of_none (h : extRamCell s.cart s.mbc off = none) (ram : rtcSelected s.cart s.mbc = false) :
    extRamRead s off = 0xFF := by
  simp [extRamRead, h, ram, fillByte]

theorem extRamWrite_of_none (h : extRamCell s.cart s.mbc off = none) (v : Byte) : extRamWrite off v s = s := by
  simp [extRamWrite, h]

theorem extRamRead_extRamWrite_self {p : Nat} (h : extRamCell s.cart s.mbc off = some p) (v : Byte) :
    extRamRead (extRamWrite off v s) off = cellReads s.cart.kind (cellStores s.cart.kind v) := by
  have shown : extRamCell (extRamWrite off v s).cart (extRamWrite off v s).mbc off = some p := by simpa using h
  rw [extRamRead_of_some shown, extRamWrite_of_some h, cellsGet_set_self]

/-- A store to the window leaves every address that shows another cell. -/
theorem extRamRead_extRamWrite_ne {x : Nat} (v : Byte) (other : extRamCell s.cart s.mbc x ≠ extRamCell s.cart s.mbc off) :
    extRamRead (extRamWrite off v s) x = extRamRead s x := by
  cases stored : extRamCell s.cart s.mbc off with
  | none => rw [extRamWrite_of_none stored]
  | some p =>
    rw [extRamWrite_of_some stored]
    unfold extRamRead
    cases shown : extRamCell s.cart s.mbc x with
    | none => simp
    | some q =>
      have apart : q ≠ p := fun same => other (by rw [shown, stored, same])
      simp [cellsGet_set_ne _ _ apart]

end Window

end Sys2Proof.Machine
end

section
/-!
The bus: every step answers, what a store leaves as it was, and what an address reads after a store to it.
-/

namespace Sys2Proof.Machine

open Sys2Proof

/-! ## Every step answers -/

/-- Every instruction answers a next state: no arm of `exec` faults or is refused. -/
theorem exec_answers (i : Instr) (s : State) : ∃ t, exec i s = .next t := by
  rcases exec_cases i s with ⟨_, _, e⟩ | rfl | rfl | rfl | rfl | ⟨_, t, _, e, _⟩
  · exact ⟨_, e⟩
  · rcases haltCpu_cases s with ⟨_, _, e⟩ | ⟨_, e⟩ <;> exact ⟨_, e⟩
  · exact ⟨_, rfl⟩
  · rcases enableInterrupts_cases s with ⟨_, _, e⟩ | ⟨_, e⟩ <;> exact ⟨_, e⟩
  · exact ⟨_, rfl⟩
  · exact ⟨t, e⟩

/-- Settles O31: a halted step answers, and a step that executes answers as `exec` does. -/
theorem everyStepAnswers : Obligations.EveryStepAnswers := by
  intro s running
  unfold step
  rw [running]
  dsimp only
  split
  · exact ⟨_, rfl⟩
  · obtain ⟨t, run⟩ := exec_answers (fetchInstr s) s
    rw [run]
    unfold completeStep
    dsimp only
    split <;> exact ⟨_, rfl⟩

/-! ## What a store leaves as it was -/

/-- An array written at one place, if at all, is unchanged at another. -/
theorem cellsGet_ite_set_ne {c : Prop} [Decidable c] {m : Cells} {p x : Nat} (v : Byte) (h : c → x ≠ p) :
    cellsGet (if c then cellsSet m p v else m) x = cellsGet m x := by
  split
  · next written => exact cellsGet_set_ne m v (h written)
  · rfl

/-- Two addresses have different offsets from a base below both. -/
theorem offset_ne {a x : Word} {base : Nat} (h : x ≠ a) (hx : base ≤ x.toNat) (ha : base ≤ a.toNat) :
    x.toNat - base ≠ a.toNat - base := by
  bv_omega

section Apart

variable {s : State} {a x : Word}

/-- A store that does not reach a banked window is no control write (20 R76). -/
theorem memWrite_mbc_of_apart (v : Byte) (banked : regionOf x = .rom0 ∨ regionOf x = .romx ∨ regionOf x = .extRam)
    (apart : storeReaches s a x = false) : (memWrite a v s).mbc = s.mbc := by
  rw [memWrite_mbc, if_neg]
  intro control
  rcases regionOf_rom control with rom | rom <;> rcases banked with banked | banked | banked <;>
    simp [storeReaches, rom, banked] at apart

theorem memRead_romWindow_of_apart (v : Byte) (rom : regionOf x = .rom0 ∨ regionOf x = .romx)
    (apart : storeReaches s a x = false) : memRead x (memWrite a v s) = memRead x s := by
  have mbc := memWrite_mbc_of_apart v (by tauto) apart
  rcases rom with rom | rom <;> simp [memRead, romRead, rom, mbc]

theorem extRamRead_of_apart (v : Byte) (window : regionOf x = .extRam) (apart : storeReaches s a x = false) :
    extRamRead (memWrite a v s) (x.toNat - 0xA000) = extRamRead s (x.toNat - 0xA000) := by
  by_cases stored : regionOf a = .extRam
  · rw [memWrite_of_extRam stored]
    exact extRamRead_extRamWrite_ne v (by simpa [storeReaches, stored, window] using apart)
  · have array : (memWrite a v s).mem.extRam = s.mem.extRam := by simp [memWrite_mem, stored]
    exact extRamRead_congr (memWrite_cart a v s) (memWrite_mbc_of_apart v (by tauto) apart) array _

theorem memRead_wramCell_of_apart (v : Byte) (named : regionOf x = .wram ∨ regionOf x = .echo)
    (apart : storeReaches s a x = false) : memRead x (memWrite a v s) = memRead x s := by
  rw [memRead_of_wramCell named, memRead_of_wramCell named, memWrite_mem]
  refine cellsGet_ite_set_ne v fun stored => ?_
  rcases stored with stored | stored <;> rcases named with named | named <;> simpa [storeReaches, stored, named] using apart

theorem ioRead_of_apart (v : Byte) (apart : storeReaches s a x = false) :
    ioRead x.toNat (memWrite a v s) = ioRead x.toNat s := by
  rw [ioRead_memWrite]
  split
  · next stored =>
    simp only [storeReaches, stored, Bool.or_eq_false_iff, Bool.and_eq_false_iff, decide_eq_false_iff_not] at apart
    obtain ⟨other, timer⟩ := apart
    exact ioRead_ioWrite_ne v s (by bv_omega) (by bv_omega)
  · rfl

end Apart

/-- Settles O44: by the region of the address that is read. -/
theorem storesReachOnlyTheirCells : Obligations.StoresReachOnlyTheirCells := by
  intro a x v s apart
  have other (plain : regionOf a = .vram ∨ regionOf a = .oam ∨ regionOf a = .hram ∨ regionOf a = .ie) : x ≠ a := by
    rcases plain with plain | plain | plain | plain <;> simpa [storeReaches, plain] using apart
  cases shown : regionOf x <;> have xSpans := regionOf_spans shown
  case rom0 => exact memRead_romWindow_of_apart v (.inl shown) apart
  case romx => exact memRead_romWindow_of_apart v (.inr shown) apart
  case vram =>
    rw [memRead_of_vram shown, memRead_of_vram shown, memWrite_mem]
    exact cellsGet_ite_set_ne v fun stored => offset_ne (other (by tauto)) xSpans.1 (regionOf_spans stored).1
  case extRam =>
    rw [memRead_of_extRam shown, memRead_of_extRam shown]
    exact extRamRead_of_apart v shown apart
  case wram => exact memRead_wramCell_of_apart v (.inl shown) apart
  case echo => exact memRead_wramCell_of_apart v (.inr shown) apart
  case oam =>
    rw [memRead_of_oam shown, memRead_of_oam shown, memWrite_mem]
    exact cellsGet_ite_set_ne v fun stored => offset_ne (other (by tauto)) xSpans.1 (regionOf_spans stored).1
  case gap => rw [memRead_of_gap shown, memRead_of_gap shown]
  case io =>
    rw [memRead_of_io shown, memRead_of_io shown]
    exact ioRead_of_apart v apart
  case hram =>
    rw [memRead_of_hram shown, memRead_of_hram shown, memWrite_mem]
    exact cellsGet_ite_set_ne v fun stored => offset_ne (other (by tauto)) xSpans.1 (regionOf_spans stored).1
  case ie =>
    have away : regionOf a ≠ .ie := fun stored =>
      other (by tauto) (BitVec.eq_of_toNat_eq (xSpans.trans (regionOf_spans stored).symm))
    rw [memRead_of_ie shown, memRead_of_ie shown, memWrite_ie, if_neg away]

/-! ## Reading back -/

/-- A register of five bits reads the others as 1 (10 R40, R41). -/
theorem or_E0_setWidth (v : Byte) : 0xE0#8 ||| (v.setWidth 5).setWidth 8 = 0xE0#8 ||| (v &&& 0x1F#8) := by
  revert v; decide

/-- A register of three bits reads the others as 1 (10 R49). -/
theorem or_F8_setWidth (v : Byte) : 0xF8#8 ||| (v.setWidth 3).setWidth 8 = 0xF8#8 ||| (v &&& 0x07#8) := by
  revert v; decide

section ReadBack

variable {a : Word}

theorem memRead_memWrite_of_vram (h : regionOf a = .vram) (v : Byte) (s : State) : memRead a (memWrite a v s) = v := by
  simp [memRead_of_vram h, memWrite_mem, h]

theorem memRead_memWrite_of_wramCell (h : regionOf a = .wram ∨ regionOf a = .echo) (v : Byte) (s : State) :
    memRead a (memWrite a v s) = v := by
  simp [memRead_of_wramCell h, memWrite_mem, h]

theorem memRead_memWrite_of_oam (h : regionOf a = .oam) (v : Byte) (s : State) : memRead a (memWrite a v s) = v := by
  simp [memRead_of_oam h, memWrite_mem, h]

theorem memRead_memWrite_of_hram (h : regionOf a = .hram) (v : Byte) (s : State) : memRead a (memWrite a v s) = v := by
  simp [memRead_of_hram h, memWrite_mem, h]

theorem memRead_memWrite_of_ie (h : regionOf a = .ie) (v : Byte) (s : State) :
    memRead a (memWrite a v s) = 0xE0 ||| (v &&& 0x1F) := by
  rw [memRead_of_ie h, memWrite_ie, if_pos h]
  exact or_E0_setWidth v

end ReadBack

/-- Each I/O register of the core, and the plain I/O bytes, after a write of `v` (20 R85, R86, R87). -/
theorem ioRead_ioWrite_self (a : Nat) (v : Byte) (s : State) :
    ioRead a (ioWrite a v s) =
      if a = 0xFF04 then 0x00
      else if a = 0xFF07 then 0xF8 ||| (v &&& 0x07)
      else if a = 0xFF0F then 0xE0 ||| (v &&& 0x1F)
      else v := by
  by_cases div : a = 0xFF04
  · simp [ioRead, ioWrite, div, timerWriteDiv, hiByte]
  by_cases tima : a = 0xFF05
  · simp [ioRead, ioWrite, tima, timerWriteTima]
  by_cases tma : a = 0xFF06
  · simp [ioRead, ioWrite, tma, timerWriteTma]
  by_cases tac : a = 0xFF07
  · simp [ioRead, ioWrite, tac, timerWriteTac, or_F8_setWidth]
  by_cases iflag : a = 0xFF0F
  · simp [ioRead, ioWrite, iflag, or_E0_setWidth]
  · simp [ioRead, ioWrite, div, tima, tma, tac, iflag]

theorem memRead_memWrite_of_io {a : Word} (h : regionOf a = .io) (v : Byte) (s : State) :
    memRead a (memWrite a v s) =
      if a = 0xFF04 then 0x00
      else if a = 0xFF07 then 0xF8 ||| (v &&& 0x07)
      else if a = 0xFF0F then 0xE0 ||| (v &&& 0x1F)
      else v := by
  rw [memRead_of_io h, ioRead_memWrite, if_pos h, ioRead_ioWrite_self]
  simp only [BitVec.toNat_eq]
  rfl

/-- Settles O45: the ranges of the address map are the model's regions. -/
theorem readBackByRegion : Obligations.ReadBackByRegion := by
  intro a v s
  simp only [ite_prop_iff_and]
  refine ⟨fun rom => ?_, fun _ => ⟨fun _ => ?_, fun _ => ⟨fun _ => ?_, fun _ => ⟨fun _ => ?_, fun _ => ⟨fun _ => ?_,
    fun _ => ⟨fun _ => ?_, fun _ => ⟨fun _ => ?_, fun _ => ⟨fun _ => ?_, fun _ => ⟨fun _ => ?_, fun _ => ?_⟩⟩⟩⟩⟩⟩⟩⟩⟩
  · rw [memWrite_of_rom rom]
  · exact memRead_memWrite_of_vram (regionOf_eq .vram ⟨by omega, by omega⟩) v s
  · rw [memWrite_of_extRam (regionOf_eq .extRam ⟨by omega, by omega⟩), extRamWrite_eq]
  · exact memRead_memWrite_of_wramCell (.inl (regionOf_eq .wram ⟨by omega, by omega⟩)) v s
  · exact memRead_memWrite_of_wramCell (.inr (regionOf_eq .echo ⟨by omega, by omega⟩)) v s
  · exact memRead_memWrite_of_oam (regionOf_eq .oam ⟨by omega, by omega⟩) v s
  · have gap := regionOf_eq (a := a) .gap ⟨by omega, by omega⟩
    exact ⟨memRead_of_gap gap s, memWrite_of_gap gap v s⟩
  · rw [memRead_memWrite_of_io (regionOf_eq .io ⟨by omega, by omega⟩)]
    simp +contextual
  · exact memRead_memWrite_of_hram (regionOf_eq .hram ⟨by omega, by omega⟩) v s
  · exact memRead_memWrite_of_ie (regionOf_eq .ie (by bv_omega)) v s

/-- Settles O46: an address of the echo and the one 0x2000 below it name one cell of `wram`. -/
theorem echoIsTheSameCell : Obligations.EchoIsTheSameCell := by
  intro a v s low high
  have echo := regionOf_eq (a := a) .echo ⟨low, high⟩
  have wram : regionOf (a - 0x2000) = .wram := regionOf_eq .wram (by constructor <;> bv_omega)
  have cell : wramCell (a - 0x2000) = wramCell a := by
    rw [wramCell, wramCell, if_pos wram, if_neg (by simp [echo])]
    bv_omega
  rw [memRead_of_wramCell (.inr echo), memRead_of_wramCell (.inl wram), memWrite_of_wramCell (.inr echo),
    memWrite_of_wramCell (.inl wram), cell]
  exact ⟨rfl, rfl⟩

end Sys2Proof.Machine
end

section
/-!
The cartridge: what a control write leaves in the bank registers, which image byte a ROM window shows and which cell the external
RAM window shows, in the integer arithmetic of the statements.
-/

namespace Sys2Proof.Machine

open Sys2Proof Sys2Proof.Statements

/-! ## The decode of a control write -/

/-- A mask of `k` low ones is the remainder of `2 ^ k`. -/
theorem toNat_and_mask (v : Byte) {mask : Byte} (k n : Nat) (size : n = 2 ^ k) (ones : mask.toNat = n - 1) :
    (v &&& mask).toNat = v.toNat % n := by
  rw [BitVec.toNat_and, ones, size, Nat.and_two_pow_sub_one_eq_mod]

theorem setWidth_and_mask (w : Nat) (v : Byte) {mask : Byte} (k n : Nat) (size : n = 2 ^ k) (ones : mask.toNat = n - 1) :
    (v &&& mask).setWidth w = BitVec.ofNat w (v.toNat % n) := by
  rw [← toNat_and_mask v k n size ones, BitVec.ofNat_toNat]

/-- The bank number of a masked byte, with zero replaced by one. -/
theorem bankNotZero_and_mask (v : Byte) {mask : Byte} (k n : Nat) (size : n = 2 ^ k) (ones : mask.toNat = n - 1) :
    bankNotZero (v &&& mask) = BitVec.ofNat 9 (if v.toNat % n = 0 then 1 else v.toNat % n) := by
  have zero : v &&& mask = 0 ↔ v.toNat % n = 0 := by
    rw [← toNat_and_mask v k n size ones, BitVec.toNat_eq]
    rfl
  rw [bankNotZero, setWidth_and_mask 9 v k n size ones]
  simp only [zero]
  split <;> rfl

theorem enables_eq (v : Byte) : enables v = decide (v.toNat % 16 = 0x0A) := by
  rw [enables, Bool.eq_iff_iff, beq_iff_eq, decide_eq_true_iff, BitVec.toNat_eq, toNat_and_mask v 4 16 rfl rfl]
  rfl

theorem getLsbD_zero_eq (v : Byte) : v.getLsbD 0 = decide (v.toNat % 2 = 1) := by
  simp [BitVec.getLsbD, Nat.testBit_zero]

/-- Bit 8 of an address selects MBC2's register (20 R117). -/
theorem testBit_eight_iff (a : Nat) : a.testBit 8 = true ↔ ¬a / 256 % 2 = 0 := by
  simp [Nat.testBit_eq_decide_div_mod_eq]

/-- MBC5's low write keeps bit 8 of the ROM bank (20 R123). -/
theorem romBank_low_write (b : BitVec 9) (v : Byte) :
    (b &&& 0x100) ||| v.setWidth 9 = BitVec.ofNat 9 (b.toNat / 256 * 256 + v.toNat) := by
  have kept : b.toNat &&& 2 ^ 8 = 2 ^ 8 * (b.toNat / 256) := by
    rw [Nat.and_two_pow, Nat.toNat_testBit]
    omega
  have joined := Nat.two_pow_add_eq_or_of_lt v.isLt (b.toNat / 256)
  apply BitVec.eq_of_toNat_eq
  rw [BitVec.toNat_or, BitVec.toNat_and, BitVec.toNat_setWidth]
  change (b.toNat &&& 2 ^ 8) ||| v.toNat % 512 = (b.toNat / 256 * 256 + v.toNat) % 512
  rw [kept, Nat.mod_eq_of_lt (by omega : v.toNat < 512), ← joined]
  omega

/-- MBC5's high write keeps the low eight bits of the ROM bank (20 R123). -/
theorem romBank_high_write (b : BitVec 9) (v : Byte) :
    (b &&& 0x0FF) ||| ((v &&& 0x01).setWidth 9 <<< 8) = BitVec.ofNat 9 (v.toNat % 2 * 256 + b.toNat % 256) := by
  have joined := Nat.two_pow_add_eq_or_of_lt (Nat.mod_lt b.toNat (by decide : 0 < 2 ^ 8)) (v.toNat % 2)
  have shifted : (BitVec.ofNat 9 (v.toNat % 2) <<< 8).toNat = 2 ^ 8 * (v.toNat % 2) := by
    rw [BitVec.toNat_shiftLeft, BitVec.toNat_ofNat, Nat.shiftLeft_eq]
    omega
  apply BitVec.eq_of_toNat_eq
  rw [setWidth_and_mask 9 v 1 2 rfl rfl, BitVec.or_comm, BitVec.toNat_or, BitVec.toNat_and, shifted]
  change 2 ^ 8 * (v.toNat % 2) ||| (b.toNat &&& 2 ^ 8 - 1) = (v.toNat % 2 * 256 + b.toNat % 256) % 512
  rw [Nat.and_two_pow_sub_one_eq_mod, ← joined]
  omega

/-- Settles O47: each variant's control write decodes in integer arithmetic as its masks say. -/
theorem controlWritesSetTheBankRegisters : Obligations.ControlWritesSetTheBankRegisters := by
  intro a v s rom
  rw [memWrite_of_rom rom]
  refine ⟨rfl, ?_⟩
  dsimp only
  cases s.cart.kind <;> simp only [mbcControl]
  case mbc1 =>
    unfold mbc1Control
    rw [enables_eq, bankNotZero_and_mask v 5 32 rfl rfl, setWidth_and_mask 4 v 2 4 rfl rfl, getLsbD_zero_eq]
    split_ifs <;> rfl
  case mbc2 =>
    unfold mbc2Control
    rw [enables_eq, bankNotZero_and_mask v 4 16 rfl rfl]
    simp only [testBit_eight_iff]
    split_ifs <;> rfl
  case mbc3 =>
    unfold mbc3Control
    rw [enables_eq, bankNotZero_and_mask v 7 128 rfl rfl, setWidth_and_mask 4 v 4 16 rfl rfl]
    split_ifs <;> rfl
  case mbc5 =>
    unfold mbc5Control
    rw [enables_eq, romBank_low_write, romBank_high_write, setWidth_and_mask 4 v 4 16 rfl rfl]
    split_ifs <;> rfl

/-! ## The ROM windows -/

theorem bank0_eq_fixedBank (s : State) : bank0 s.cart.kind s.mbc = fixedBank s := by
  unfold bank0 fixedBank
  cases s.cart.kind <;> simp [Nat.shiftLeft_eq]

theorem bankN_eq_switchableBank (s : State) : bankN s.cart.kind s.mbc = switchableBank s := by
  unfold bankN switchableBank
  cases s.cart.kind <;> simp [Nat.shiftLeft_eq]

theorem romRead_eq_imageAt (s : State) (bank off : Nat) : romRead s bank off = imageAt s bank off := rfl

/-- Settles O48: the two windows differ in the bank they select alone. -/
theorem romWindowsShowTheImage : Obligations.RomWindowsShowTheImage := by
  intro a s
  refine ⟨fun fixed => ?_, fun low high => ?_⟩
  · rw [memRead_of_le_3FFF s fixed, bank0_eq_fixedBank, romRead_eq_imageAt]
  · rw [memRead_of_romx (regionOf_eq .romx ⟨low, high⟩), bankN_eq_switchableBank, romRead_eq_imageAt]

/-! ## External RAM -/

/-- Address `a` of the window shows nothing: it reads the fill value and discards writes. -/
theorem window_without_cell {a : Word} (window : regionOf a = .extRam) {s : State}
    (none : extRamCell s.cart s.mbc (a.toNat - 0xA000) = none) (ram : rtcSelected s.cart s.mbc = false) (v : Byte) :
    memRead a s = 0xFF ∧ memWrite a v s = s := by
  rw [memRead_of_extRam window, memWrite_of_extRam window]
  exact ⟨extRamRead_of_none none ram, extRamWrite_of_none none v⟩

/-- Address `a` of the window shows cell `p`: it reads the cell, a write stores there alone, and reads back. -/
theorem window_of_cell {a : Word} (window : regionOf a = .extRam) {s : State} {p : Nat}
    (cell : extRamCell s.cart s.mbc (a.toNat - 0xA000) = some p) (v : Byte) :
    memRead a s = cellReads s.cart.kind (cellsGet s.mem.extRam p) ∧
    memWrite a v s = { s with mem := { s.mem with extRam := cellsSet s.mem.extRam p (cellStores s.cart.kind v) } } ∧
    memRead a (memWrite a v s) = cellReads s.cart.kind (cellStores s.cart.kind v) := by
  rw [memRead_of_extRam window, memRead_of_extRam window, memWrite_of_extRam window]
  exact ⟨extRamRead_of_some cell, extRamWrite_of_some cell v, extRamRead_extRamWrite_self cell v⟩

/-- A cell of eight bits, in every variant but MBC2. -/
theorem showsRamCell_of_cell {a : Word} (window : regionOf a = .extRam) {s : State} {p : Nat} (wide : s.cart.kind ≠ .mbc2)
    (cell : extRamCell s.cart s.mbc (a.toNat - 0xA000) = some p) (v : Byte) : showsRamCell a v p s := by
  have shown := window_of_cell window cell v
  simp only [cellReads, cellStores, if_neg wide] at shown
  exact shown

section Cell

variable {s : State} {off : Nat}

theorem extRamCell_disabled (controller : s.cart.kind ≠ .romOnly) (disabled : s.mbc.ramEnable = false) :
    extRamCell s.cart s.mbc off = none := by
  unfold extRamCell
  cases kind : s.cart.kind
  case romOnly => exact absurd kind controller
  all_goals simp [disabled]

theorem extRamCell_absent (wide : s.cart.kind ≠ .mbc2) (absent : s.cart.ramSize = 0) : extRamCell s.cart s.mbc off = none := by
  unfold extRamCell
  cases kind : s.cart.kind
  case mbc2 => exact absurd kind wide
  all_goals simp [absent]

theorem extRamCell_mbc2 (kind : s.cart.kind = .mbc2) (enabled : s.mbc.ramEnable = true) :
    extRamCell s.cart s.mbc off = some (off % 512) := by
  simp [extRamCell, kind, enabled]

/-- RAM that is present, enabled where the variant has an enable register, and selected shows the cell of the variant's bank. -/
theorem extRamCell_eq_ramCellAt {a : Word} (wide : s.cart.kind ≠ .mbc2) (present : 0 < s.cart.ramSize)
    (enabled : s.cart.kind = .romOnly ∨ s.mbc.ramEnable = true) (ram : s.cart.kind = .mbc3 → s.mbc.ramBank.toNat ≤ 0x07) :
    extRamCell s.cart s.mbc (a.toNat - 0xA000) = some (ramCellAt s a) := by
  unfold extRamCell ramCellAt ramBankShown ramOffset
  cases kind : s.cart.kind <;> simp_all

theorem rtcSelected_of_not_mbc3 (kind : s.cart.kind ≠ .mbc3) : rtcSelected s.cart s.mbc = false := by
  simp [rtcSelected, kind]

theorem rtcSelected_of_disabled (disabled : s.mbc.ramEnable = false) : rtcSelected s.cart s.mbc = false := by
  simp [rtcSelected, disabled]

theorem rtcSelected_of_ram (ram : s.mbc.ramBank.toNat ≤ 0x07) : rtcSelected s.cart s.mbc = false := by
  simp [rtcSelected, Nat.lt_succ_of_le ram]

theorem rtcSelected_of_above (above : 0x0D ≤ s.mbc.ramBank.toNat) : rtcSelected s.cart s.mbc = false := by
  simp [rtcSelected, Nat.lt_of_succ_le above]

end Cell

/-- MBC2 stores four bits and reads the upper nibble as 1s (20 R119). -/
theorem mbc2_cellReads_cellStores (v : Byte) : cellReads .mbc2 (cellStores .mbc2 v) = 0xF0 ||| v := by
  revert v; decide

/-- MBC2's address shows the cell of its low nine bits (20 R119). -/
theorem mbc2_window_of_cell {a : Word} {s : State} (window : regionOf a = .extRam) (kind : s.cart.kind = .mbc2)
    (enabled : s.mbc.ramEnable = true) (v : Byte) :
    memRead a s = 0xF0 ||| cellsGet s.mem.extRam (a.toNat % 512) ∧
    memWrite a v s = { s with mem := { s.mem with extRam := cellsSet s.mem.extRam (a.toNat % 512) (v &&& 0x0F) } } ∧
    memRead a (memWrite a v s) = 0xF0 ||| v := by
  have low : (a.toNat - 0xA000) % 512 = a.toNat % 512 := by
    have spans := regionOf_spans window
    omega
  have shown := window_of_cell window (extRamCell_mbc2 kind enabled) v
  rw [kind, low, mbc2_cellReads_cellStores] at shown
  exact shown

/-- Settles O49: a window without a cell reads the fill value and discards writes, any other shows its variant's cell. -/
theorem externalRamAccess : Obligations.ExternalRamAccess := by
  intro a v s low high
  have window : regionOf a = .extRam := regionOf_eq .extRam ⟨low, high⟩
  refine ⟨?_, ?_, ?_, ?_, ?_, ?_, ?_, ?_⟩
  · intro controller disabled
    exact window_without_cell window (extRamCell_disabled controller disabled) (rtcSelected_of_disabled disabled) v
  · intro kind absent
    exact window_without_cell window (extRamCell_absent (by simp [kind]) absent) (rtcSelected_of_not_mbc3 (by simp [kind])) v
  · intro kind _ absent
    have neither : s.cart.kind ≠ .mbc2 ∧ s.cart.kind ≠ .mbc3 := by rcases kind with kind | kind <;> simp [kind]
    exact window_without_cell window (extRamCell_absent neither.1 absent) (rtcSelected_of_not_mbc3 neither.2) v
  · intro kind _ ram absent
    exact window_without_cell window (extRamCell_absent (by simp [kind]) absent) (rtcSelected_of_ram ram) v
  · intro kind present
    have wide : s.cart.kind ≠ .mbc2 := by simp [kind]
    exact showsRamCell_of_cell window wide (extRamCell_eq_ramCellAt wide present (.inl kind) (by simp [kind])) v
  · intro kind enabled present
    have neither : s.cart.kind ≠ .mbc2 ∧ s.cart.kind ≠ .mbc3 := by rcases kind with kind | kind <;> simp [kind]
    exact showsRamCell_of_cell window neither.1
      (extRamCell_eq_ramCellAt neither.1 present (.inr enabled) (absurd · neither.2)) v
  · intro kind enabled
    obtain ⟨read, stored, back⟩ := mbc2_window_of_cell window kind enabled v
    refine ⟨read, stored, back, fun x xLow xHigh same => ?_⟩
    rw [read, (mbc2_window_of_cell (regionOf_eq .extRam ⟨xLow, xHigh⟩) kind enabled v).1, same]
  · intro kind enabled ram present
    have wide : s.cart.kind ≠ .mbc2 := by simp [kind]
    exact showsRamCell_of_cell window wide (extRamCell_eq_ramCellAt wide present (.inr enabled) (fun _ => ram)) v

/-- Settles O50: a clock register is no cell, and only selections up to 0x0C read the draw. -/
theorem clockRegistersReadTheDraw : Obligations.ClockRegistersReadTheDraw := by
  intro a v s low high kind enabled
  have window : regionOf a = .extRam := regionOf_eq .extRam ⟨low, high⟩
  refine ⟨fun clock last => ?_, fun above => ?_⟩
  · have selected := rtcSelected_iff.mpr ⟨kind, enabled, clock, last⟩
    rw [memRead_of_extRam window, memWrite_of_extRam window]
    exact ⟨extRamRead_of_rtcSelected selected, extRamWrite_of_none (extRamCell_of_clock kind clock _) v⟩
  · exact window_without_cell window (extRamCell_of_clock kind (by omega) _) (rtcSelected_of_above above) v

end Sys2Proof.Machine
end

section
/-!
The checks of `load`: the header checksum in integer arithmetic, and what a load answers where a check fails.
-/

namespace Sys2Proof.Machine

open Sys2Proof Sys2Proof.Statements

/-- Subtracting each byte and 1 for each, modulo 256, from any start (70 R478). -/
theorem foldl_checksum (bytes : List Byte) (x : Byte) :
    ((bytes.foldl (fun x v => x - v - 1) x).toNat : Int) =
      (x.toNat - (bytes.map (fun v => (v.toNat : Int))).sum - bytes.length) % 256 := by
  induction bytes generalizing x with
  | nil =>
    have byte := x.isLt
    simp
    omega
  | cons v r ih =>
    have first : ((x - v - 1).toNat : Int) = (x.toNat - v.toNat - 1) % 256 := by bv_omega
    rw [List.foldl_cons, ih, first]
    simp only [List.map_cons, List.sum_cons, List.length_cons]
    push_cast
    omega

/-- A part of the image, byte by byte. -/
theorem take_drop_eq_map_getD (image : List Byte) {start count : Nat} (inside : start + count ≤ image.length) :
    (image.drop start).take count = (List.range count).map (fun i => image.getD (start + i) 0) := by
  apply List.ext_getElem
  · simp
    omega
  · intro i left right
    have within : start + i < image.length := by
      simp at right
      omega
    simp [List.getElem?_eq_getElem within]

/-- The checksum that `load` computes is that of the statements. -/
theorem headerChecksum_eq (image : List Byte) (long : 0x0150 ≤ image.length) :
    ((headerChecksum image).toNat : Int) = checksumOf image := by
  rw [headerChecksum, foldl_checksum, take_drop_eq_map_getD image (by omega)]
  simp [checksumOf, Function.comp_def]

theorem headerChecksum_eq_iff {image : List Byte} (long : 0x0150 ≤ image.length) :
    headerChecksum image = imageByte image 0x014D ↔ checksumOf image = (image.getD 0x014D 0).toNat := by
  rw [← headerChecksum_eq image long, Int.natCast_inj, BitVec.toNat_eq, imageByte]

section Checks

variable {image : List Byte} (d : Draws)

theorem load_tooShort (short : image.length < 0x0150) : load image d = .error .tooShort := if_pos short

theorem load_checksumMismatch (long : 0x0150 ≤ image.length) (mismatch : headerChecksum image ≠ imageByte image 0x014D) :
    load image d = .error .checksumMismatch := by
  rw [load, if_neg (by omega), if_pos mismatch]

theorem load_unsupported (long : 0x0150 ≤ image.length) (sum : headerChecksum image = imageByte image 0x014D)
    (unsupported : ¬∃ k size, selects image k size) : load image d = .error .unsupportedCartridge := by
  rw [load, if_neg (by omega), if_neg (not_not.mpr sum)]
  split
  · rfl
  · next v variant =>
    split
    · rfl
    · next size ram => exact absurd ⟨v.1, size, selects_iff.mpr ⟨v.2, variant, ram⟩⟩ unsupported

end Checks

/-- Settles O51: the checks part the images into four kinds, and each answer is that of one kind. -/
theorem loadChecksInOrder : Obligations.LoadChecksInOrder := by
  intro image d
  dsimp only
  rcases Nat.lt_or_ge image.length 0x0150 with short | long
  · simp [load_tooShort d short, short]
  rw [← headerChecksum_eq_iff long]
  by_cases sum : headerChecksum image = imageByte image 0x014D
  · by_cases supported : ∃ k size, selects image k size
    · have ⟨k, size, selected⟩ := supported
      have loaded := load_eq_ok_iff (d := d).mpr ⟨long, sum, k, size, selected, rfl⟩
      simp [loaded, long, sum, supported]
    · simp [load_unsupported d long sum supported, long, sum, supported]
  · simp [load_checksumMismatch d long sum, long, sum]

end Sys2Proof.Machine
end

section
/-!
The decoder and the encoder. What a cell of the two grids says of words and instruction is the relation `IsRow`: the decoder reads
exactly the rows (`decode_eq_ok_iff_isRow`, which looks into no grid), and the encoder writes exactly the rows (`isRow_iff`, cell by
cell and constructor by constructor). Round trips in both directions are the two halves of `decode_eq_ok_iff`.
-/

namespace Sys2Proof

open Sys2Proof.Machine Sys2Proof.Statements

/-! ## The cells of a grid -/

/-- The opcode byte with the fields `x`, `y` and `z` (30 R141). -/
def opcodeOf (x : Fin 4) (y z : Fin 8) : Byte := BitVec.ofNat 8 (64 * x.val + 8 * y.val + z.val)

/-- Every byte has its fields, so a fact about every cell of a grid is one about each `x`, `y` and `z`. -/
theorem exists_opcodeOf (op : Byte) : ∃ x y z, op = opcodeOf x y z := by
  refine ⟨⟨op.toNat / 64, by omega⟩, ⟨op.toNat / 8 % 8, by omega⟩, ⟨op.toNat % 8, by omega⟩, BitVec.eq_of_toNat_eq ?_⟩
  simp only [opcodeOf, BitVec.toNat_ofNat]
  omega

/-- The primary grid by its fields; 0xCB leads to the extended grid (30 R148, R154). -/
theorem decodeAt_eq (op n1 n2 : Byte) :
    decodeAt op n1 n2 = if op = 0xCB then extendedInstr n1 else primaryByFields op n1 n2 := by
  obtain ⟨x, y, z, rfl⟩ := exists_opcodeOf op
  fin_cases x <;> fin_cases y <;> fin_cases z <;> rfl

/-- The extended grid by its fields (30 R149). -/
theorem extendedInstr_eq (op2 : Byte) : extendedInstr op2 = extendedByFields op2 := by
  obtain ⟨x, y, z, rfl⟩ := exists_opcodeOf op2
  fin_cases x <;> fin_cases y <;> fin_cases z <;> rfl

/-- Settles O3: but for 0xCB, each cell is the row of its fields. -/
theorem primaryTableFollowsFields : Obligations.PrimaryTableFollowsFields := by
  intro op n1 n2 notPrefix
  rw [decodeAt_eq, if_neg notPrefix]

/-- Settles O4: the cell of 0xCB hands the second byte to the extended grid. -/
theorem extendedTableFollowsFields : Obligations.ExtendedTableFollowsFields := by
  intro op2 n2
  rw [decodeAt_eq, if_pos rfl, extendedInstr_eq]

/-! ## The rows of the opcode table -/

/-- The instruction and the words of a row: those of a cell of the primary grid with the operand that the cell takes, or those of a
cell of the extended grid behind 0xCB (30 R140, R142). -/
inductive IsRow : Instr → List Byte → Prop where
  | op {b0 : Byte} {i : Instr} (cell : primaryEntry b0 = .op i) : IsRow i [b0]
  | extended {op2 : Byte} {i : Instr} (cell : extendedInstr op2 = i) : IsRow i [0xCB, op2]
  | d8 {b0 : Byte} {f : Byte → Instr} (n : Byte) (cell : primaryEntry b0 = .d8 f) : IsRow (f n) [b0, n]
  | d16 {b0 : Byte} {f : Word → Instr} (v : Word) (cell : primaryEntry b0 = .d16 f) : IsRow (f v) [b0, loByte v, hiByte v]

/-! ## The encoder writes the rows -/

/-- The words of a well-formed instruction. -/
def wordsOf (i : Instr) : Option (List Byte) := if wellFormed i then some (encode i) else none

theorem wordsOf_eq_some_iff {i : Instr} {ws : List Byte} : wordsOf i = some ws ↔ wellFormed i = true ∧ encode i = ws := by
  simp [wordsOf]

/-- The encoder gives the instructions of an entry the words that begin with `b0` and go on with the entry's operand. Stated as an
equation in each case, of functions where there is an operand: evaluation alone then proves it of a cell. -/
def EncodesEntry (b0 : Byte) (e : Entry) : Prop :=
  match e with
  | .op i => wordsOf i = some [b0]
  | .d8 f => (fun n => wordsOf (f n)) = fun n => some [b0, n]
  | .d16 f => (fun v => wordsOf (f v)) = fun v => some [b0, loByte v, hiByte v]
  | .extended => b0 = 0xCB

theorem encodesEntry_of_cell {b0 : Byte} {e : Entry} (cell : primaryEntry b0 = e) : EncodesEntry b0 e := by
  subst cell
  obtain ⟨x, y, z, rfl⟩ := exists_opcodeOf b0
  fin_cases x <;> fin_cases y <;> fin_cases z <;> exact rfl

theorem wordsOf_extendedInstr (op2 : Byte) : wordsOf (extendedInstr op2) = some [0xCB, op2] := by
  obtain ⟨x, y, z, rfl⟩ := exists_opcodeOf op2
  fin_cases x <;> fin_cases y <;> fin_cases z <;> rfl

theorem IsRow.wordsOf_eq {i : Instr} {ws : List Byte} (row : IsRow i ws) : wordsOf i = some ws := by
  cases row with
  | op cell => exact encodesEntry_of_cell cell
  | extended cell => rw [← cell, wordsOf_extendedInstr]
  | d8 n cell => exact congrFun (encodesEntry_of_cell cell) n
  | d16 v cell => exact congrFun (encodesEntry_of_cell cell) v

/-- Every constructor but `prefixCb` has a cell; the form of its words says in which grid and with which operand. -/
theorem isRow_encode {i : Instr} (wf : wellFormed i = true) : IsRow i (encode i) := by
  cases i
  case prefixCb => cases wf
  all_goals
    constructor
    rfl

theorem isRow_iff {i : Instr} {ws : List Byte} : IsRow i ws ↔ wellFormed i = true ∧ encode i = ws := by
  refine ⟨fun row => wordsOf_eq_some_iff.mp row.wordsOf_eq, ?_⟩
  rintro ⟨wf, rfl⟩
  exact isRow_encode wf

/-! ## The decoder reads the rows -/

theorem decode_cons_eq_ok_iff {b0 : Byte} {r rest : List Byte} {i : Instr} :
    decode (b0 :: r) = .ok (i, rest) ↔
      lengthOf b0 ≤ r.length + 1 ∧ decodeAt b0 (r.getD 0 0) (r.getD 1 0) = i ∧ r.drop (lengthOf b0 - 1) = rest := by
  rw [decode]
  split
  · next short => simp [Nat.not_le.mpr short]
  · next long => simp [Nat.not_lt.mp long]

/-- The bytes that the decoder reads are the words of a row, whose form is that of the first byte's entry. -/
theorem exists_isRow_of_decode {bs rest : List Byte} {i : Instr} (read : decode bs = .ok (i, rest)) :
    ∃ ws, IsRow i ws ∧ ws ++ rest = bs := by
  obtain _ | ⟨b0, r⟩ := bs
  · cases read
  obtain ⟨long, rfl, rfl⟩ := decode_cons_eq_ok_iff.mp read
  unfold lengthOf at long ⊢
  unfold decodeAt
  cases cell : primaryEntry b0 with
  | op i => exact ⟨[b0], .op cell, rfl⟩
  | d8 f =>
    obtain _ | ⟨n, r⟩ := r
    · simp [cell, entryLength] at long
    exact ⟨[b0, n], .d8 n cell, rfl⟩
  | d16 f =>
    obtain _ | ⟨lo, _ | ⟨hi, r⟩⟩ := r
    · simp [cell, entryLength] at long
    · simp [cell, entryLength] at long
    exact ⟨_, .d16 (pairOf hi lo) cell, by simp [entryLength]⟩
  | extended =>
    obtain _ | ⟨op2, r⟩ := r
    · simp [cell, entryLength] at long
    obtain rfl : b0 = 0xCB := encodesEntry_of_cell cell
    exact ⟨[0xCB, op2], .extended rfl, rfl⟩

theorem IsRow.decode_append {i : Instr} {ws : List Byte} (row : IsRow i ws) (rest : List Byte) :
    decode (ws ++ rest) = .ok (i, rest) := by
  cases row with
  | extended cell => exact decode_cons_eq_ok_iff.mpr ⟨Nat.le_add_left 2 rest.length, cell, rfl⟩
  | op cell | d8 n cell | d16 v cell =>
    simp [decode_cons_eq_ok_iff, lengthOf, decodeAt, cell, entryLength, entryInstr]

theorem decode_eq_ok_iff_isRow {bs rest : List Byte} {i : Instr} :
    decode bs = .ok (i, rest) ↔ ∃ ws, IsRow i ws ∧ ws ++ rest = bs := by
  refine ⟨exists_isRow_of_decode, ?_⟩
  rintro ⟨ws, row, rfl⟩
  exact row.decode_append rest

/-- The decoder and the encoder agree: the bytes read are the words of a well-formed instruction and what follows them. -/
theorem decode_eq_ok_iff {bs rest : List Byte} {i : Instr} :
    decode bs = .ok (i, rest) ↔ wellFormed i = true ∧ encode i ++ rest = bs := by
  simp [decode_eq_ok_iff_isRow, isRow_iff, and_assoc]

/-- Settles O1: the words of a well-formed instruction are those of a row, which the decoder reads. -/
theorem decodeUndoesEncode : Obligations.DecodeUndoesEncode := by
  intro i rest wf
  exact decode_eq_ok_iff.mpr ⟨wf, rfl⟩

/-- Settles O2: what the decoder reads is a row, whose words the encoder writes. -/
theorem encodeUndoesDecode : Obligations.EncodeUndoesDecode := by
  intro bs i rest read
  exact decode_eq_ok_iff.mp read

end Sys2Proof
end

section
/-!
Loads, stores and the stack (40_loads.md). First the shared operations: which instruction words a family has, what the fetch and the
end of an instruction leave, and the frames of the writes of registers, pairs and memory. An obligation's proof names the operation
that runs its family (Laws/Exec.lean) and puts the frames of that operation together.
-/

namespace Sys2Proof.Machine

open Sys2Proof Sys2Proof.Statements

/-! ## The words of each family, by its fields (30 R143-R145) -/

theorem encode_ldReg (dst src : R8) : encode (Families.ldReg dst src) = [byteOf (0x40 + 8 * fieldOf dst + fieldOf src)] := by
  cases dst <;> cases src <;> rfl

theorem encode_ldRegImm (dst : R8) (n : Byte) : encode (Families.ldRegImm dst n) = [byteOf (0x06 + 8 * fieldOf dst), n] := by
  cases dst <;> rfl

theorem encode_ldRegMem (dst : R8) : encode (Families.ldRegMem dst) = [byteOf (0x46 + 8 * fieldOf dst)] := by
  cases dst <;> rfl

theorem encode_ldMemReg (src : R8) : encode (Families.ldMemReg src) = [byteOf (0x70 + fieldOf src)] := by cases src <;> rfl

theorem encode_ldAIndirect (p : R16Mem) : encode (Families.ldAIndirect p) = [byteOf (0x0A + 16 * indirectField p)] := by
  cases p <;> rfl

theorem encode_ldIndirectA (p : R16Mem) : encode (Families.ldIndirectA p) = [byteOf (0x02 + 16 * indirectField p)] := by
  cases p <;> rfl

theorem encode_ldPairImm (p : R16) (v : Word) :
    encode (Families.ldPairImm p v) = [byteOf (0x01 + 16 * pairField p), loByte v, hiByte v] := by
  cases p <;> rfl

theorem encode_push (p : R16Stk) : encode (Families.push p) = [byteOf (0xC5 + 16 * stackField p)] := by cases p <;> rfl

theorem encode_pop (p : R16Stk) : encode (Families.pop p) = [byteOf (0xC1 + 16 * stackField p)] := by cases p <;> rfl

/-! ## The fetch and the end of an instruction -/

/-- An instruction of `len` bytes and `m` M-cycles whose effects leave PC past it touches no interrupt control, halt or failure. -/
theorem Advances.of_effects {len : Nat} {s u : State} (m : Nat) (effects : Effects (afterFetch len s) u)
    (pc : u.regs.pc = pcAfterFetch len s) : Advances len m s { u with cycles := m } := by
  obtain ⟨ime, imeDelay, halted, haltBug, failure, _⟩ := effects.keeps
  exact ⟨pc, haltBug, rfl, ime, imeDelay, halted, failure⟩

/-! ## Registers and pairs -/

/-- What two updates in turn keep: the registers that neither lists. -/
theorem KeepsRegs.trans {first second : List R8} {s t u : State} (h : KeepsRegs first s t) (k : KeepsRegs second t u) :
    KeepsRegs (first ++ second) s u := by
  obtain ⟨kept, sp, f⟩ := h
  obtain ⟨kept', sp', f'⟩ := k
  refine ⟨fun r other => ?_, sp'.trans sp, f'.trans f⟩
  obtain ⟨other, other'⟩ := not_or.mp (mt List.mem_append.mpr other)
  exact (kept' r other').trans (kept r other)

theorem sameBus_writeR8 (r : R8) (v : Byte) (s : State) : SameBus s (writeR8 r v s) := by
  cases r <;> exact SameBus.refl s

theorem sameBus_writeR16 (p : R16) (v : Word) (s : State) : SameBus s (writeR16 p v s) := by
  cases p <;> exact SameBus.refl s

theorem sameBus_writeR16Stk (p : R16Stk) (v : Word) (s : State) : SameBus s (writeR16Stk p v s) := by
  cases p <;> exact SameBus.refl s

theorem keepsR8_writeR8 (r : R8) (v : Byte) (s : State) : KeepsR8 [r] s (writeR8 r v s) :=
  fun _ other => readR8_writeR8_ne (List.ne_of_not_mem_cons other) v s

theorem keepsR8_writeTwo (r q : R8) (v w : Byte) (s : State) : KeepsR8 [r, q] s (writeR8 r v (writeR8 q w s)) := by
  intro x other
  obtain ⟨first, second⟩ := List.ne_and_not_mem_of_not_mem_cons other
  rw [readR8_writeR8_ne first, keepsR8_writeR8 q w s x second]

theorem keepsRegs_writeR8 (r : R8) (v : Byte) (s : State) : KeepsRegs [r] s (writeR8 r v s) :=
  ⟨keepsR8_writeR8 r v s, writeR8_sp r v s, writeR8_f r v s⟩

theorem readR16_writeR16_ne {p q : R16} (other : q ≠ p) (v : Word) (s : State) :
    readR16 q (writeR16 p v s) = readR16 q s := by
  cases p
  · cases q <;> [exact absurd rfl other; rfl; rfl; rfl]
  · cases q <;> [rfl; exact absurd rfl other; rfl; rfl]
  · cases q <;> [rfl; rfl; exact absurd rfl other; rfl]
  · cases q <;> [rfl; rfl; rfl; exact absurd rfl other]

@[simp] theorem writeR16Stk_sp (p : R16Stk) (v : Word) (s : State) : (writeR16Stk p v s).regs.sp = s.regs.sp := by
  cases p <;> rfl

@[simp] theorem writeR16Stk_pc (p : R16Stk) (v : Word) (s : State) : (writeR16Stk p v s).regs.pc = s.regs.pc := by
  cases p <;> rfl

/-! ## The high page and the indirect group (30 R145, R147) -/

theorem highPage_eq_pairOf (n : Byte) : highPage n = pairOf 0xFF n := by
  revert n; decide

theorem indirectAddress_eq_indirectAt (p : R16Mem) (s : State) : indirectAddress p s = indirectAt p s := by cases p <;> rfl

theorem sameBus_indirectAfter (p : R16Mem) (s : State) : SameBus s (indirectAfter p s) := by
  cases p <;> exact SameBus.refl s

theorem keepsRegs_indirectAfter (p : R16Mem) (s : State) : KeepsRegs (hlOf p) s (indirectAfter p s) := by
  cases p
  case bc => exact ⟨fun _ _ => rfl, rfl, rfl⟩
  case de => exact ⟨fun _ _ => rfl, rfl, rfl⟩
  case hlInc => exact ⟨keepsR8_writeTwo .h .l _ _ s, rfl, rfl⟩
  case hlDec => exact ⟨keepsR8_writeTwo .h .l _ _ s, rfl, rfl⟩

@[simp] theorem indirectAfter_pc (p : R16Mem) (s : State) : (indirectAfter p s).regs.pc = s.regs.pc := by cases p <;> rfl

@[simp] theorem indirectAfter_a (p : R16Mem) (s : State) : (indirectAfter p s).regs.a = s.regs.a := by cases p <;> rfl

theorem readR16_hl_indirectAfter (p : R16Mem) (s : State) : readR16 .hl (indirectAfter p s) = readR16 .hl s + hlStep p := by
  cases p
  case bc => exact (BitVec.add_zero _).symm
  case de => exact (BitVec.add_zero _).symm
  case hlInc => exact readR16_writeR16_self .hl _ s
  case hlDec => exact (readR16_writeR16_self .hl _ s).trans (BitVec.sub_eq_add_neg _ _)

/-! ## Stores -/

theorem StoresByte.of_sameBus {a : Word} {v : Byte} {s t : State} (h : SameBus (memWrite a v s) t) : StoresByte a v s t :=
  ⟨h, fun x apart => (memRead_congr h x).trans (storesReachOnlyTheirCells a x v s apart)⟩

theorem StoresTwo.of_sameBus {a1 a2 : Word} {v1 v2 : Byte} {s t : State}
    (h : SameBus (memWrite a2 v2 (memWrite a1 v1 s)) t) : StoresTwo a1 v1 a2 v2 s t := by
  refine ⟨h, fun x apart1 apart2 => ?_⟩
  calc memRead x t
      _ = memRead x (memWrite a2 v2 (memWrite a1 v1 s)) := memRead_congr h x
      _ = memRead x (memWrite a1 v1 s) := storesReachOnlyTheirCells a2 x v2 _ apart2
      _ = memRead x s := storesReachOnlyTheirCells a1 x v1 s apart1

theorem keepsRegs_memWrite (a : Word) (v : Byte) (s : State) : KeepsRegs [] s (memWrite a v s) :=
  ⟨fun r _ => readR8_memWrite r a v s, by simp, by simp⟩

/-! ## The stack -/

@[simp] theorem loByte_popValue (s : State) : loByte (popValue s) = memRead s.regs.sp s := loByte_pairOf _ _

@[simp] theorem hiByte_popValue (s : State) : hiByte (popValue s) = memRead (s.regs.sp + 1) s := hiByte_pairOf _ _

/-- PUSH with the pair as the model reads it, in which AF has F's low nibble 0 (10 R34). -/
theorem pushPair_effect (p : R16Stk) (s : State) :
    ∃ t, pushPair p s = .next t ∧ Pushes (readR16Stk p s) s t ∧ KeepsR8 [] s t ∧ t.regs.f = s.regs.f ∧ Advances 1 4 s t := by
  unfold pushPair
  generalize readR16Stk p s = v
  have bus := push16_sameBus v (afterFetch 1 s)
  have fetched := memWrite_congr (memWrite_congr (sameBus_afterFetch 1 s) (s.regs.sp - 1) (hiByte v)) (s.regs.sp - 2) (loByte v)
  exact ⟨_, rfl, ⟨.of_sameBus (fetched.trans bus), push16_sp v (afterFetch 1 s)⟩,
    fun r _ => readR8_push16 r v (afterFetch 1 s), push16_f v (afterFetch 1 s), .of_effects 4 (.push v .refl) (by simp)⟩

/-! ## An instruction that writes one register, or stores one byte -/

section OneWrite

variable (len m : Nat) (v : Byte) (s : State)

theorem finish_writeR8_effect (r : R8) :
    ∃ t, finish m (writeR8 r v (afterFetch len s)) = .next t ∧ readR8 r t = v ∧ KeepsRegs [r] s t ∧ KeepsBus s t ∧
      Advances len m s t :=
  have bus : SameBus s (writeR8 r v (afterFetch len s)) := sameBus_writeR8 r v (afterFetch len s)
  ⟨_, rfl, readR8_writeR8_self r v (afterFetch len s), keepsRegs_writeR8 r v (afterFetch len s), .of_sameBus bus,
    .of_effects m (.r8 r v .refl) (by simp)⟩

theorem finish_memWrite_effect (a : Word) :
    ∃ t, finish m (memWrite a v (afterFetch len s)) = .next t ∧ StoresByte a v s t ∧ KeepsRegs [] s t ∧ Advances len m s t :=
  have bus : SameBus (memWrite a v s) (memWrite a v (afterFetch len s)) := memWrite_congr (sameBus_afterFetch len s) a v
  ⟨_, rfl, .of_sameBus bus, keepsRegs_memWrite a v (afterFetch len s), .of_effects m (.mem a v .refl) (by simp)⟩

end OneWrite

/-! ## The obligations -/

/-- Settles O6: each of the three forms writes its destination and nothing else. -/
theorem registerLoads : Obligations.RegisterLoads := by
  refine ⟨fun dst src s => ⟨encode_ldReg dst src, ?_⟩, fun dst n s => ⟨encode_ldRegImm dst n, ?_⟩,
    fun dst s => ⟨encode_ldRegMem dst, ?_⟩⟩
  · rw [exec_ldReg]
    exact finish_writeR8_effect 1 1 (readR8 src s) s dst
  · rw [exec_ldRegImm]
    exact finish_writeR8_effect 2 2 n s dst
  · rw [exec_ldRegMem]
    exact finish_writeR8_effect 1 2 (memRead (readHl s) s) s dst

/-- Settles O7: both forms store one byte at HL. -/
theorem storesAtHl : Obligations.StoresAtHl := by
  refine ⟨fun src s => ⟨encode_ldMemReg src, ?_⟩, fun n s => ⟨rfl, ?_⟩⟩
  · rw [exec_ldMemReg]
    exact finish_memWrite_effect 1 2 (readR8 src s) s (readHl s)
  · exact finish_memWrite_effect 2 3 n s (readHl s)

/-- Settles O8: the transfer, then the step of HL, whose frame holds on top of the transfer's. -/
theorem indirectAccumulatorTransfers : Obligations.IndirectAccumulatorTransfers := by
  refine ⟨fun p s => ⟨encode_ldAIndirect p, ?_⟩, fun p s => ⟨encode_ldIndirectA p, ?_⟩⟩
  · rw [exec_ldAIndirect, loadAIndirect, indirectAddress_eq_indirectAt]
    generalize memRead (indirectAt p s) s = v
    have bus : SameBus s (writeR8 .a v (afterFetch 1 s)) := sameBus_writeR8 .a v (afterFetch 1 s)
    have kept := keepsRegs_writeR8 .a v (afterFetch 1 s)
    exact ⟨_, rfl, indirectAfter_a p _, readR16_hl_indirectAfter p _, kept.trans (keepsRegs_indirectAfter p _),
      .of_sameBus (bus.trans (sameBus_indirectAfter p _)), .of_effects 2 (.indirect p (.r8 .a v .refl)) (by simp)⟩
  · rw [exec_ldIndirectA, storeAIndirect, indirectAddress_eq_indirectAt]
    generalize indirectAt p s = a
    have bus := memWrite_congr (sameBus_afterFetch 1 s) a s.regs.a
    have kept := keepsRegs_memWrite a s.regs.a (afterFetch 1 s)
    have hl := readR16_memWrite .hl a s.regs.a (afterFetch 1 s)
    exact ⟨_, rfl, .of_sameBus (bus.trans (sameBus_indirectAfter p _)),
      (readR16_hl_indirectAfter p _).trans (congrArg (· + hlStep p) hl), kept.trans (keepsRegs_indirectAfter p _),
      .of_effects 2 (.indirect p (.mem a s.regs.a .refl)) (by simp)⟩

/-- Settles O9: each load writes A alone, each store its byte alone; the high page is the addresses with the high byte 0xFF. -/
theorem absoluteAccumulatorTransfers : Obligations.AbsoluteAccumulatorTransfers := by
  unfold Obligations.AbsoluteAccumulatorTransfers
  simp only [← highPage_eq_pairOf]
  exact ⟨fun a s => ⟨rfl, finish_writeR8_effect 3 4 (memRead a s) s .a⟩,
    fun n s => ⟨rfl, finish_writeR8_effect 2 3 (memRead (highPage n) s) s .a⟩,
    fun s => ⟨rfl, finish_writeR8_effect 1 2 (memRead (highPage s.regs.c) s) s .a⟩,
    fun a s => ⟨rfl, finish_memWrite_effect 3 4 s.regs.a s a⟩,
    fun n s => ⟨rfl, finish_memWrite_effect 2 3 s.regs.a s (highPage n)⟩,
    fun s => ⟨rfl, finish_memWrite_effect 1 2 s.regs.a s (highPage s.regs.c)⟩⟩

/-- Settles O10: a pair written whole, two stores in order, and SP written alone. -/
theorem wordLoads : Obligations.WordLoads := by
  refine ⟨fun p v s => ⟨encode_ldPairImm p v, ?_⟩, fun a s => ⟨rfl, ?_⟩, fun s => ⟨rfl, ?_⟩⟩
  · rw [exec_ldPairImm]
    have bus : SameBus s (writeR16 p v (afterFetch 3 s)) := sameBus_writeR16 p v (afterFetch 3 s)
    exact ⟨_, rfl, readR16_writeR16_self p v (afterFetch 3 s), fun q other => readR16_writeR16_ne other v (afterFetch 3 s),
      writeR16_a p v _, writeR16_f p v _, .of_sameBus bus, .of_effects 3 (.r16 p v .refl) (by simp)⟩
  · have bus := memWrite_congr (memWrite_congr (sameBus_afterFetch 3 s) a (loByte s.regs.sp)) (a + 1) (hiByte s.regs.sp)
    have kept := keepsRegs_memWrite a (loByte s.regs.sp) (afterFetch 3 s)
    exact ⟨_, rfl, .of_sameBus bus, kept.trans (keepsRegs_memWrite (a + 1) (hiByte s.regs.sp) _),
      .of_effects 5 (.word a s.regs.sp .refl) (by simp [memWriteWord])⟩
  · exact ⟨_, rfl, rfl, fun r _ => readR8_setSp r (readHl s) (afterFetch 1 s), rfl,
      .of_sameBus (sameBus_setSp (readHl s) s), .of_effects 2 (.sp (readHl s) .refl) rfl⟩

/-- Settles O11: in each form the pair that the rule names is the one that the model reads. -/
theorem pushInstructions : Obligations.PushInstructions := by
  intro p s
  refine ⟨encode_push p, ?_⟩
  rw [exec_push]
  cases p <;> exact pushPair_effect _ s

/-- Settles O12: SP and the bus as for any pair, then the halves of the pair that is popped. -/
theorem popInstructions : Obligations.PopInstructions := by
  intro p s
  refine ⟨encode_pop p, ?_⟩
  rw [exec_pop]
  have bus : SameBus s (writeR16Stk p (popValue s) (popped (afterFetch 1 s))) :=
    sameBus_writeR16Stk p (popValue s) (popped (afterFetch 1 s))
  refine ⟨_, rfl, writeR16Stk_sp p _ _, .of_sameBus bus, .of_effects 3 (.r16Stk p _ (.sp _ .refl)) (by simp), ?_⟩
  cases p
  case bc => exact ⟨hiByte_popValue s, loByte_popValue s, keepsR8_writeTwo .b .c _ _ (popped (afterFetch 1 s)), rfl⟩
  case de => exact ⟨hiByte_popValue s, loByte_popValue s, keepsR8_writeTwo .d .e _ _ (popped (afterFetch 1 s)), rfl⟩
  case hl => exact ⟨hiByte_popValue s, loByte_popValue s, keepsR8_writeTwo .h .l _ _ (popped (afterFetch 1 s)), rfl⟩
  case af => exact ⟨hiByte_popValue s, congrArg (· &&& 0xF0) (loByte_popValue s), keepsR8_writeR8 .a _ (writeF _ _)⟩

/-- Settles O5: the words are those of their instructions, which the decoder reads back; the CALL cut short is one byte shorter than
the length of its first byte. -/
theorem writtenWordsDecode : Obligations.WrittenWordsDecode := by
  have reads (i : Instr) (wf : wellFormed i = true) : decode (encode i) = .ok (i, []) :=
    decode_eq_ok_iff.mpr ⟨wf, List.append_nil _⟩
  exact ⟨reads (.ldBD8 0x05) rfl, reads (.ldMemA16Sp 0xC100) rfl, reads .subE rfl, reads .addHlDe rfl, reads .bit7H rfl,
    reads (.jrNzE8 0xFC) rfl, reads (.callA16 0x0200) rfl, reads .rst28 rfl, reads .halt rfl, reads .illegalD3 rfl, rfl⟩

end Sys2Proof.Machine
end

section
/-!
8-bit arithmetic and logic (41_alu8.md). Every form but SCF and CCF writes one operand and the flags
(`finish_setFlags_writeOperand_effect`), so what is left of an obligation is that the value written and the flags are those of the
rule's integer arithmetic.
-/

namespace Sys2Proof.Machine

open Sys2Proof Sys2Proof.Statements

/-! ## An instruction that writes one operand and the flags -/

section Flagged

variable (len m : Nat) (g : Flags) (s : State)

theorem finish_setFlags_writeOperand_effect (o : Operand8) (v : Byte) :
    ∃ t, finish m (setFlags g (writeOperand o v (afterFetch len s))) = .next t ∧
      (WritesOperand o v s t ∧ HasFlags g.z g.n g.hf g.cy t) ∧ t.regs.sp = s.regs.sp ∧ Advances len m s t := by
  cases o
  case reg r =>
    obtain ⟨kept, sp, _⟩ := keepsRegs_writeR8 r v (afterFetch len s)
    have bus : SameBus s (writeR8 r v (afterFetch len s)) := sameBus_writeR8 r v (afterFetch len s)
    exact ⟨_, rfl, ⟨⟨readR8_writeR8_self r v (afterFetch len s), kept, .of_sameBus bus⟩, setFlags_hasFlags _ _ _ _ _⟩, sp,
      .of_effects m (.flags g (.r8 r v .refl)) (by simp [writeOperand])⟩
  case memHl =>
    obtain ⟨kept, sp, _⟩ := keepsRegs_memWrite (readHl s) v (afterFetch len s)
    have bus := memWrite_congr (sameBus_afterFetch len s) (readHl s) v
    exact ⟨_, rfl, ⟨⟨kept, .of_sameBus bus⟩, setFlags_hasFlags _ _ _ _ _⟩, sp,
      .of_effects m (.flags g (.mem (readHl s) v .refl)) (by simp [writeOperand])⟩

theorem finish_setFlags_effect :
    ∃ t, finish m (setFlags g (afterFetch len s)) = .next t ∧ HasFlags g.z g.n g.hf g.cy t ∧ KeepsR8 [] s t ∧
      t.regs.sp = s.regs.sp ∧ KeepsBus s t ∧ Advances len m s t :=
  ⟨_, rfl, setFlags_hasFlags _ _ _ _ _, fun _ _ => rfl, rfl, .of_sameBus (sameBus_afterFetch len s),
    .of_effects m (.flags g .refl) rfl⟩

end Flagged

/-! ## The forms of an ALU operation (41 R240) -/

theorem encode_alu (op : AluOp) (src : Families.AluSource) : encode (Families.alu op src) = aluBytes op src := by
  rcases src with r | _ | n
  · cases op <;> cases r <;> rfl
  · cases op <;> rfl
  · cases op <;> rfl

theorem exec_alu (op : AluOp) (src : Families.AluSource) (s : State) :
    exec (Families.alu op src) s = aluA op (sourceValue src s) (sourceLength src) (sourceCost src) s := by
  rcases src with r | _ | n
  · exact exec_alu_reg op r s
  · exact exec_alu_memHl op s
  · exact exec_alu_imm op n s

/-- The result of an ALU instruction in state `s`. -/
def aluOutcome (op : AluOp) (src : Families.AluSource) (s : State) : Byte × Flags :=
  aluResult op s.regs.a (sourceValue src s) (getFlags s).cy

theorem alu_effect (op : AluOp) (src : Families.AluSource) (s : State) :
    ∃ t, exec (Families.alu op src) s = .next t ∧ t.regs.a = (aluOutcome op src s).1 ∧
      HasFlags (aluOutcome op src s).2.z (aluOutcome op src s).2.n (aluOutcome op src s).2.hf (aluOutcome op src s).2.cy t ∧
      KeepsR8 [.a] s t ∧ t.regs.sp = s.regs.sp ∧ KeepsBus s t ∧ Advances (sourceLength src) (sourceCost src) s t := by
  rw [exec_alu]
  obtain ⟨t, run, ⟨⟨value, kept, bus⟩, flags⟩, sp, advances⟩ :=
    finish_setFlags_writeOperand_effect (sourceLength src) (sourceCost src) (aluOutcome op src s).2 s (.reg .a)
      (aluOutcome op src s).1
  exact ⟨t, run, value, flags, kept, sp, bus, advances⟩

/-- ADD and ADC are the addition function with their carry-in. -/
theorem aluOutcome_addition {op : AluOp} (addition : op = .add ∨ op = .adc) (src : Families.AluSource) (s : State) :
    ∃ c, aluOutcome op src s = add8 s.regs.a (sourceValue src s) c ∧ carryIn op s = bitNat c := by
  rcases addition with rfl | rfl
  · exact ⟨false, rfl, rfl⟩
  · exact ⟨(getFlags s).cy, rfl, rfl⟩

/-- SUB, SBC and CP are the subtraction function with their carry-in, of which CP takes the flags alone. -/
theorem aluOutcome_subtraction {op : AluOp} (subtraction : op = .sub ∨ op = .sbc ∨ op = .cp) (src : Families.AluSource)
    (s : State) :
    ∃ c, (aluOutcome op src s).1 = (if op = .cp then s.regs.a else (sub8 s.regs.a (sourceValue src s) c).1) ∧
      (aluOutcome op src s).2 = (sub8 s.regs.a (sourceValue src s) c).2 ∧ carryIn op s = bitNat c := by
  rcases subtraction with rfl | rfl | rfl
  · exact ⟨false, rfl, rfl, rfl⟩
  · exact ⟨(getFlags s).cy, rfl, rfl, rfl⟩
  · exact ⟨false, rfl, rfl, rfl⟩

/-! ## The results in integer arithmetic (41 R242, R251, R253, R255) -/

theorem bitNat_le_one (b : Bool) : bitNat b ≤ 1 := by cases b <;> decide

theorem toNat_sub8 (a b : Byte) (c : Bool) : ((sub8 a b c).1.toNat : Int) = ((a.toNat : Int) - b.toNat - bitNat c) % 256 := by
  have borrow := bitNat_le_one c
  change ((BitVec.ofNat 8 (256 + a.toNat - b.toNat - bitNat c)).toNat : Int) = _
  rw [BitVec.toNat_ofNat]
  omega

theorem sub8_z (a b : Byte) (c : Bool) : (sub8 a b c).2.z = decide (((a.toNat : Int) - b.toNat - bitNat c) % 256 = 0) := by
  rw [← toNat_sub8]
  change decide ((sub8 a b c).1 = 0) = _
  simp [BitVec.toNat_eq]

theorem add_one_eq_byteOf (v : Byte) : v + 1 = byteOf ((v.toNat + 1) % 256) := by
  apply BitVec.eq_of_toNat_eq
  simp [byteOf]

theorem sub_one_eq_byteOf (v : Byte) : v - 1 = byteOf ((v.toNat + 255) % 256) := by
  apply BitVec.eq_of_toNat_eq
  simp [byteOf, BitVec.toNat_sub, Nat.add_comm]

/-- The half-carry tests of INC and DEC look at the low digit. -/
theorem lowNibble_beq (v : Byte) {d : Byte} : (v &&& 0x0F == d) = decide (v.toNat % 16 = d.toNat) := by
  rw [beq_eq_decide, decide_eq_decide, BitVec.toNat_eq, toNat_and_mask v 4 16 rfl rfl]

theorem inc8_eq (v : Byte) (g : Flags) :
    inc8 v g = (byteOf ((v.toNat + 1) % 256), ⟨decide (v.toNat = 0xFF), false, decide (v.toNat % 16 = 0x0F), g.cy⟩) := by
  have zero : (v + 1 == 0) = decide (v.toNat = 0xFF) := by
    rw [beq_eq_decide, decide_eq_decide]
    bv_omega
  rw [inc8, zero, lowNibble_beq, add_one_eq_byteOf]
  rfl

theorem dec8_eq (v : Byte) (g : Flags) :
    dec8 v g = (byteOf ((v.toNat + 255) % 256), ⟨decide (v.toNat = 0x01), true, decide (v.toNat % 16 = 0x00), g.cy⟩) := by
  have zero : (v - 1 == 0) = decide (v.toNat = 0x01) := by
    rw [beq_eq_decide, decide_eq_decide]
    bv_omega
  rw [dec8, zero, lowNibble_beq, sub_one_eq_byteOf]
  rfl

theorem toNat_daaAfterSub (a : Byte) (g : Flags) :
    ((daaAfterSub a g).1.toNat : Int) = (a.toNat - ((if g.cy then 0x60 else 0) + (if g.hf then 0x06 else 0))) % 256 := by
  unfold daaAfterSub
  cases g.cy <;> cases g.hf <;> simp only [Bool.false_eq_true, if_true, if_false] <;> bv_omega

theorem daaAfterAdd_carry (a : Byte) (g : Flags) : (daaAfterAdd a g).2 = (g.cy || decide ((a.toNat : Int) > 0x99)) := by
  have test : decide (a.toNat > 0x99) = decide ((a.toNat : Int) > 0x99) := decide_eq_decide.mpr (by omega)
  exact congrArg (g.cy || ·) test

/-- The adjustment of the high digit leaves the low one. -/
theorem lowDigit_add_0x60 (high : Bool) (a : Byte) : (if high then a + 0x60 else a).toNat % 16 = a.toNat % 16 := by
  cases high <;> simp only [Bool.false_eq_true, if_true, if_false]
  bv_omega

theorem toNat_daaAfterAdd (a : Byte) (g : Flags) :
    ((daaAfterAdd a g).1.toNat : Int) =
      (a.toNat + ((if g.cy || decide ((a.toNat : Int) > 0x99) then 0x60 else 0) +
        (if g.hf || decide ((a.toNat : Int) % 16 > 9) then 0x06 else 0))) % 256 := by
  have test : decide (a.toNat % 16 > 0x09) = decide ((a.toNat : Int) % 16 > 9) := decide_eq_decide.mpr (by omega)
  rw [← daaAfterAdd_carry, ← test]
  unfold daaAfterAdd
  simp only [lowDigit_add_0x60]
  generalize (g.cy || decide (a.toNat > 0x99)) = high, (g.hf || decide (a.toNat % 16 > 0x09)) = low
  cases high <;> cases low <;> simp only [Bool.false_eq_true, if_true, if_false] <;> bv_omega

/-! ## INC and DEC of an operand -/

theorem encode_inc (o : Operand8) : encode (Families.inc o) = [byteOf (0x04 + 8 * operandField o)] := by
  rcases o with r | _
  · cases r <;> rfl
  · rfl

theorem encode_dec (o : Operand8) : encode (Families.dec o) = [byteOf (0x05 + 8 * operandField o)] := by
  rcases o with r | _
  · cases r <;> rfl
  · rfl

theorem exec_inc (o : Operand8) (s : State) :
    exec (Families.inc o) s = finish (operandCost o 1 3)
      (setFlags (inc8 (readOperand o s) (getFlags s)).2
        (writeOperand o (inc8 (readOperand o s) (getFlags s)).1 (afterFetch 1 s))) := by
  rcases o with r | _
  · exact exec_inc_reg r s
  · exact exec_inc_memHl s

theorem exec_dec (o : Operand8) (s : State) :
    exec (Families.dec o) s = finish (operandCost o 1 3)
      (setFlags (dec8 (readOperand o s) (getFlags s)).2
        (writeOperand o (dec8 (readOperand o s) (getFlags s)).1 (afterFetch 1 s))) := by
  rcases o with r | _
  · exact exec_dec_reg r s
  · exact exec_dec_memHl s

/-! ## The obligations -/

/-- Settles O13: both are the addition function, with their carry-in. -/
theorem additions : Obligations.Additions := by
  intro op src s addition
  obtain ⟨c, outcome, carry⟩ := aluOutcome_addition addition src s
  obtain ⟨t, run, value, flags, frame⟩ := alu_effect op src s
  refine ⟨encode_alu op src, t, run, ?_, frame⟩
  rw [outcome] at value flags
  rw [carry, value]
  exact ⟨BitVec.toNat_ofNat _ 8, flags⟩

/-- Settles O14: all three have the flags of the subtraction function, and but for CP its result. -/
theorem subtractions : Obligations.Subtractions := by
  intro op src s subtraction
  obtain ⟨c, result, flagged, carry⟩ := aluOutcome_subtraction subtraction src s
  obtain ⟨t, run, value, flags, frame⟩ := alu_effect op src s
  refine ⟨encode_alu op src, t, run, ?_, frame⟩
  rw [flagged, sub8_z] at flags
  rw [carry, value, result]
  refine ⟨?_, flags⟩
  split
  · rfl
  · exact toNat_sub8 _ _ c

/-- Settles O15: A is the bitwise operation of its row. -/
theorem logicalOperations : Obligations.LogicalOperations := by
  intro op src s logical
  obtain ⟨t, run, value, flags, frame⟩ := alu_effect op src s
  refine ⟨encode_alu op src, t, run, ?_, ?_, frame⟩
  · intro k _
    rw [value]
    rcases logical with rfl | rfl | rfl
    · exact BitVec.getLsbD_and
    · exact BitVec.getLsbD_xor
    · exact BitVec.getLsbD_or
  · rw [value]
    rcases logical with rfl | rfl | rfl <;> exact flags

/-- Settles O16: the operand is written once, with the value and the flags of `inc8` and `dec8`. -/
theorem byteIncrementsAndDecrements : Obligations.ByteIncrementsAndDecrements := by
  intro o s
  refine ⟨⟨encode_inc o, ?_⟩, ⟨encode_dec o, ?_⟩⟩
  · rw [exec_inc, inc8_eq]
    exact finish_setFlags_writeOperand_effect 1 (operandCost o 1 3) _ s o _
  · rw [exec_dec, dec8_eq]
    exact finish_setFlags_writeOperand_effect 1 (operandCost o 1 3) _ s o _

/-- Settles O17: after an addition the tests look at A before any adjustment, after a subtraction at the flags alone. -/
theorem decimalAdjust : Obligations.DecimalAdjust := by
  intro s
  obtain ⟨t, run, ⟨⟨value, kept, bus⟩, flags⟩, sp, advances⟩ := finish_setFlags_writeOperand_effect 1 1
    (daaResult s.regs.a (getFlags s)).2 s (.reg .a) (daaResult s.regs.a (getFlags s)).1
  refine ⟨rfl, t, run, ?_, kept, sp, bus, advances⟩
  change t.regs.a = _ at value
  rw [value]
  generalize getFlags s = g at *
  cases n : g.n
  · simp only [daaResult, n, Bool.false_eq_true, if_false, daaAfterAdd_carry] at flags ⊢
    exact ⟨toNat_daaAfterAdd s.regs.a g, flags⟩
  · simp only [daaResult, n, if_true] at flags ⊢
    exact ⟨toNat_daaAfterSub s.regs.a g, flags⟩

/-- Settles O18: CPL writes A and the flags, SCF and CCF the flags alone. -/
theorem complementsAndCarry : Obligations.ComplementsAndCarry := by
  intro s
  refine ⟨⟨rfl, ?_⟩, ⟨rfl, finish_setFlags_effect 1 1 (scfFlags (getFlags s)) s⟩,
    ⟨rfl, finish_setFlags_effect 1 1 (ccfFlags (getFlags s)) s⟩⟩
  obtain ⟨t, run, ⟨⟨value, kept, bus⟩, flags⟩, sp, advances⟩ := finish_setFlags_writeOperand_effect 1 1
    (cplFlags (getFlags s)) s (.reg .a) (~~~s.regs.a)
  have complement : t.regs.a.toNat = 255 - s.regs.a.toNat := (congrArg BitVec.toNat value).trans BitVec.toNat_not
  exact ⟨t, run, complement, flags, kept, sp, bus, advances⟩

end Sys2Proof.Machine
end

section
/-!
16-bit arithmetic (42_alu16.md). Each instruction writes one pair: INC and DEC alone, ADD HL,rr and LD HL,SP+e8 into HL with the
flags, ADD SP,e8 into SP with the flags. The value and the flags are those of the shared operations `addWord` and `spPlus`.
-/

namespace Sys2Proof.Machine

open Sys2Proof Sys2Proof.Statements

/-! ## The words of each family, by the field of its pair (30 R144) -/

theorem encode_addHl (p : R16) : encode (Families.addHl p) = [byteOf (0x09 + 16 * pairField p)] := by cases p <;> rfl

theorem encode_incPair (p : R16) : encode (Families.incPair p) = [byteOf (0x03 + 16 * pairField p)] := by cases p <;> rfl

theorem encode_decPair (p : R16) : encode (Families.decPair p) = [byteOf (0x0B + 16 * pairField p)] := by cases p <;> rfl

/-! ## The results in integer arithmetic (42 R280-R283) -/

theorem toNat_addWord (a b : Word) (g : Flags) : (addWord a b g).1.toNat = (a.toNat + b.toNat) % 65536 :=
  BitVec.toNat_ofNat _ 16

theorem toNat_sub_one (v : Word) : (v - 1).toNat = (v.toNat + 65535) % 65536 := by
  rw [BitVec.toNat_sub, Nat.add_comm]
  rfl

/-- The displacement is signed: the sign extension is the word of the byte's integer value. -/
theorem toNat_spPlus (sp : Word) (n : Byte) : ((spPlus sp n).1.toNat : Int) = ((sp.toNat : Int) + n.toInt) % 65536 := by
  have extended : (sext16 n).toNat = (n.toInt % 65536).toNat := BitVec.toNat_ofInt n.toInt
  change ((sp + sext16 n).toNat : Int) = _
  rw [BitVec.toNat_add, extended]
  omega

/-! ## An instruction that writes one pair -/

section OnePair

variable (len m : Nat) (s : State)

theorem finish_writeR16_effect (p : R16) (v : Word) :
    ∃ t, finish m (writeR16 p v (afterFetch len s)) = .next t ∧ readR16 p t = v ∧
      (∀ q, q ≠ p → readR16 q t = readR16 q s) ∧ t.regs.a = s.regs.a ∧ t.regs.f = s.regs.f ∧ KeepsBus s t ∧
      Advances len m s t := by
  have bus : SameBus s (writeR16 p v (afterFetch len s)) := sameBus_writeR16 p v (afterFetch len s)
  have other (q : R16) (ne : q ≠ p) : readR16 q (writeR16 p v (afterFetch len s)) = readR16 q s :=
    (readR16_writeR16_ne ne v (afterFetch len s)).trans (readR16_afterFetch q len s)
  exact ⟨_, rfl, readR16_writeR16_self p v (afterFetch len s), other, writeR16_a p v _, writeR16_f p v _, .of_sameBus bus,
    .of_effects m (.r16 p v .refl) (by simp)⟩

/-- HL written with the flags of one result (ADD HL,rr and LD HL,SP+e8). -/
theorem finish_setFlags_writeHl_effect (r : Word × Flags) :
    ∃ t, finish m (setFlags r.2 (writeR16 .hl r.1 (afterFetch len s))) = .next t ∧ readR16 .hl t = r.1 ∧
      HasFlags r.2.z r.2.n r.2.hf r.2.cy t ∧ KeepsR8 [.h, .l] s t ∧ t.regs.sp = s.regs.sp ∧ KeepsBus s t ∧
      Advances len m s t := by
  have bus : SameBus s (writeR16 .hl r.1 (afterFetch len s)) := sameBus_writeR16 .hl r.1 (afterFetch len s)
  exact ⟨_, rfl, readR16_writeR16_self .hl r.1 (afterFetch len s), setFlags_hasFlags _ _ _ _ _,
    keepsR8_writeTwo .h .l _ _ (afterFetch len s), rfl, .of_sameBus bus, .of_effects m (.flags r.2 (.r16 .hl r.1 .refl)) rfl⟩

/-- SP written with the flags of one result (ADD SP,e8). -/
theorem finish_setFlags_setSp_effect (r : Word × Flags) :
    ∃ t, finish m (setFlags r.2 (setSp r.1 (afterFetch len s))) = .next t ∧ t.regs.sp = r.1 ∧
      HasFlags r.2.z r.2.n r.2.hf r.2.cy t ∧ KeepsR8 [] s t ∧ KeepsBus s t ∧ Advances len m s t :=
  ⟨_, rfl, rfl, setFlags_hasFlags _ _ _ _ _, fun q _ => readR8_setSp q r.1 (afterFetch len s),
    .of_sameBus (sameBus_setSp r.1 s), .of_effects m (.flags r.2 (.sp r.1 .refl)) rfl⟩

end OnePair

/-! ## The obligations -/

/-- Settles O19: ADD HL,rr writes HL and the flags with what `addWord` gives, INC and DEC write the pair alone. -/
theorem pairArithmetic : Obligations.PairArithmetic := by
  intro p s
  refine ⟨⟨encode_addHl p, ?_⟩, ⟨encode_incPair p, ?_⟩, ⟨encode_decPair p, ?_⟩⟩
  · rw [exec_addHl]
    obtain ⟨t, run, value, flags, frame⟩ :=
      finish_setFlags_writeHl_effect 1 2 s (addWord (readR16 .hl s) (readR16 p s) (getFlags s))
    exact ⟨t, run, ⟨value ▸ toNat_addWord _ _ _, flags⟩, frame⟩
  · rw [exec_incPair]
    obtain ⟨t, run, value, frame⟩ := finish_writeR16_effect 1 2 s p (readR16 p s + 1)
    exact ⟨t, run, value ▸ BitVec.toNat_add _ 1, frame⟩
  · rw [exec_decPair]
    obtain ⟨t, run, value, frame⟩ := finish_writeR16_effect 1 2 s p (readR16 p s - 1)
    exact ⟨t, run, value ▸ toNat_sub_one _, frame⟩

/-- Settles O20: both write what `spPlus` gives, ADD SP,e8 to SP and LD HL,SP+e8 to HL. -/
theorem stackPointerPlusDisplacement : Obligations.StackPointerPlusDisplacement := by
  intro n s
  refine ⟨⟨rfl, ?_⟩, ⟨rfl, ?_⟩⟩
  · obtain ⟨t, run, value, frame⟩ := finish_setFlags_setSp_effect 2 4 s (spPlus s.regs.sp n)
    exact ⟨t, run, value ▸ toNat_spPlus s.regs.sp n, frame⟩
  · obtain ⟨t, run, value, frame⟩ := finish_setFlags_writeHl_effect 2 3 s (spPlus s.regs.sp n)
    exact ⟨t, run, value ▸ toNat_spPlus s.regs.sp n, frame⟩

end Sys2Proof.Machine
end

section
/-!
Rotates, shifts and bits (43_rotate_shift_bit.md). A rotate puts the bit it takes in next to the bits it moves, where they are 0, so
the OR of the model's result is the sum of the rule's (`toNat_or_of_lt`). Each form writes one operand, or BIT none, with the flags
or without them (`finish_setFlags_writeOperand_effect`, `finish_setFlags_effect`, `finish_writeOperand_effect`).
-/

namespace Sys2Proof.Machine

open Sys2Proof Sys2Proof.Statements

/-! ## The words of each family, by its fields (30 R149) -/

theorem encode_rotate (op : RotOp) (o : Operand8) :
    encode (Families.rotate op o) = [0xCB, byteOf (8 * rotField op + operandField o)] := by
  rcases o with r | _
  · cases op <;> cases r <;> rfl
  · cases op <;> rfl

theorem encode_bitTest (b : Fin 8) (o : Operand8) :
    encode (Families.bitTest b o) = [0xCB, byteOf (0x40 + 8 * b.val + operandField o)] := by
  rcases o with r | _
  · fin_cases b <;> cases r <;> rfl
  · fin_cases b <;> rfl

theorem encode_bitReset (b : Fin 8) (o : Operand8) :
    encode (Families.bitReset b o) = [0xCB, byteOf (0x80 + 8 * b.val + operandField o)] := by
  rcases o with r | _
  · fin_cases b <;> cases r <;> rfl
  · fin_cases b <;> rfl

theorem encode_bitSet (b : Fin 8) (o : Operand8) :
    encode (Families.bitSet b o) = [0xCB, byteOf (0xC0 + 8 * b.val + operandField o)] := by
  rcases o with r | _
  · fin_cases b <;> cases r <;> rfl
  · fin_cases b <;> rfl

/-! ## The costs (43 R300) -/

theorem writeBackCost_eq_operandCost (o : Operand8) : writeBackCost o = operandCost o 2 4 := by cases o <;> rfl

theorem bitTestCost_eq_operandCost (o : Operand8) : bitTestCost o = operandCost o 2 3 := by cases o <;> rfl

/-! ## The bits at the ends of a byte -/

theorem bitAt_zero (v : Byte) : bitAt v 0 = decide (v.toNat % 2 = 1) := getLsbD_zero_eq v

theorem bitAt_seven (v : Byte) : bitAt v 7 = decide (128 ≤ v.toNat) := BitVec.msb_eq_decide v

theorem bitNat_bitAt_zero (v : Byte) : bitNat (bitAt v 0) = v.toNat % 2 := by
  rw [bitAt_zero, bitNat]
  simp only [decide_eq_true_eq]
  split <;> omega

theorem bitNat_bitAt_seven (v : Byte) : bitNat (bitAt v 7) = v.toNat / 128 := by
  have small := v.isLt
  rw [bitAt_seven, bitNat]
  simp only [decide_eq_true_eq]
  split <;> omega

@[simp] theorem toNat_byteOf_bitNat (c : Bool) : (byteOf (bitNat c)).toNat = bitNat c := by cases c <;> rfl

/-! ## The results in integer arithmetic (43 R301-R312) -/

/-- Where the high part has no bits below `k` and the low part none from `k` up, OR is addition. -/
theorem toNat_or_of_lt {high low : Byte} (k : Nat) (aligned : high.toNat % 2 ^ k = 0) (below : low.toNat < 2 ^ k) :
    (high ||| low).toNat = high.toNat + low.toNat := by
  obtain ⟨q, multiple⟩ := Nat.dvd_of_mod_eq_zero aligned
  rw [BitVec.toNat_or, multiple, Nat.two_pow_add_eq_or_of_lt below]

theorem toNat_shiftLeft_one (v : Byte) : (v <<< 1).toNat = v.toNat * 2 % 256 := by
  rw [BitVec.toNat_shiftLeft, Nat.shiftLeft_eq]

theorem toNat_ushiftRight_one (v : Byte) : (v >>> 1).toNat = v.toNat / 2 := by
  rw [BitVec.toNat_ushiftRight, Nat.shiftRight_eq_div_pow]

/-- A bit shifted in from the right (RLC, RL). -/
theorem toNat_shiftLeft_or_bit (v : Byte) (c : Bool) :
    ((v <<< 1) ||| byteOf (bitNat c)).toNat = v.toNat * 2 % 256 + bitNat c := by
  have bit := bitNat_le_one c
  rw [toNat_or_of_lt 1 (by rw [toNat_shiftLeft_one]; omega) (by rw [toNat_byteOf_bitNat]; omega), toNat_shiftLeft_one,
    toNat_byteOf_bitNat]

/-- A byte shifted right, with a high part that is bit 7 alone. -/
theorem toNat_ushiftRight_or (v high : Byte) (c : Nat) (top : high.toNat = c * 128) :
    ((v >>> 1) ||| high).toNat = v.toNat / 2 + c * 128 := by
  have small := v.isLt
  rw [BitVec.or_comm, toNat_or_of_lt 7 (by omega) (by rw [toNat_ushiftRight_one]; omega), toNat_ushiftRight_one, top,
    Nat.add_comm]

theorem toNat_bit_shiftLeft_seven (c : Bool) : (byteOf (bitNat c) <<< 7).toNat = bitNat c * 128 := by cases c <;> rfl

/-- The bit that SRA keeps. -/
theorem toNat_and_0x80 (v : Byte) : (v &&& 0x80).toNat = v.toNat / 128 * 128 := by
  have top : v &&& 0x80 = if bitAt v 7 then 0x80 else 0 := BitVec.and_twoPow v 7
  rw [top, ← bitNat_bitAt_seven]
  cases bitAt v 7 <;> rfl

/-- SWAP exchanges the two digits. -/
theorem toNat_swap (v : Byte) : (((v &&& 0x0F) <<< 4) ||| (v >>> 4)).toNat = v.toNat % 16 * 16 + v.toNat / 16 := by
  have small := v.isLt
  have high : ((v &&& 0x0F) <<< 4).toNat = v.toNat % 16 * 16 := by
    rw [BitVec.toNat_shiftLeft, toNat_and_mask v 4 16 rfl rfl, Nat.shiftLeft_eq]
    omega
  have low : (v >>> 4).toNat = v.toNat / 16 := by rw [BitVec.toNat_ushiftRight, Nat.shiftRight_eq_div_pow]
  rw [toNat_or_of_lt 4 (by omega) (by omega), high, low]

theorem toNat_rotResult (op : RotOp) (v : Byte) (cy : Bool) :
    (rotResult op v cy).1.toNat = (rotated op v.toNat (bitNat cy)).1 := by
  cases op
  case rlc => exact (toNat_shiftLeft_or_bit v _).trans (congrArg (v.toNat * 2 % 256 + ·) (bitNat_bitAt_seven v))
  case rrc =>
    exact (toNat_ushiftRight_or v _ _ (toNat_bit_shiftLeft_seven _)).trans
      (congrArg (v.toNat / 2 + · * 128) (bitNat_bitAt_zero v))
  case rl => exact toNat_shiftLeft_or_bit v cy
  case rr => exact toNat_ushiftRight_or v _ _ (toNat_bit_shiftLeft_seven cy)
  case sla => exact toNat_shiftLeft_one v
  case sra => exact toNat_ushiftRight_or v _ _ (toNat_and_0x80 v)
  case swap => exact toNat_swap v
  case srl => exact toNat_ushiftRight_one v

/-- The carry is the bit that leaves: bit 7 to the left, bit 0 to the right, none for SWAP. -/
theorem rotResult_carry (op : RotOp) (v : Byte) (cy : Bool) :
    (rotResult op v cy).2 = (rotated op v.toNat (bitNat cy)).2 := by
  cases op
  case swap => rfl
  case rlc | rl | sla => exact bitAt_seven v
  case rrc | rr | sra | srl => exact bitAt_zero v

/-- The result as a byte and its Z, from the integer result. -/
theorem rotResult_eq_byteOf (op : RotOp) (v : Byte) (cy : Bool) :
    (rotResult op v cy).1 = byteOf (rotated op v.toNat (bitNat cy)).1 := by
  rw [← toNat_rotResult, byteOf, BitVec.ofNat_toNat, BitVec.setWidth_eq]

theorem rotFlags_rotResult (op : RotOp) (v : Byte) (cy : Bool) :
    rotFlags (rotResult op v cy) =
      ⟨decide ((rotated op v.toNat (bitNat cy)).1 = 0), false, false, (rotated op v.toNat (bitNat cy)).2⟩ := by
  rw [rotFlags, rotResult_carry, ← toNat_rotResult, beq_eq_decide]
  simp only [BitVec.toNat_eq]
  rfl

/-! ## The bits of RES and SET (43 R314, R315) -/

theorem getLsbD_bitMask (b k : Fin 8) : (bitMask b.val).getLsbD k.val = decide (k = b) := by
  have bit : (bitMask b.val).getLsbD k.val = (decide (b.val < 8) && decide (b.val = k.val)) := BitVec.getLsbD_twoPow b.val k.val
  rw [bit, decide_eq_true b.isLt, Bool.true_and, decide_eq_decide, Fin.ext_iff, eq_comm]

theorem getLsbD_and_not_bitMask (v : Byte) (b k : Fin 8) :
    (v &&& ~~~bitMask b.val).getLsbD k.val = (decide (k ≠ b) && v.getLsbD k.val) := by
  rw [BitVec.getLsbD_and, BitVec.getLsbD_not, getLsbD_bitMask, decide_eq_true k.isLt, Bool.true_and, Bool.and_comm, decide_not]

theorem getLsbD_or_bitMask (v : Byte) (b k : Fin 8) :
    (v ||| bitMask b.val).getLsbD k.val = (decide (k = b) || v.getLsbD k.val) := by
  rw [BitVec.getLsbD_or, getLsbD_bitMask, Bool.or_comm]

/-! ## What the shared operations do -/

/-- An operand written, and no flag. -/
theorem finish_writeOperand_effect (len m : Nat) (s : State) (o : Operand8) (v : Byte) :
    ∃ t, finish m (writeOperand o v (afterFetch len s)) = .next t ∧ WritesOperand o v s t ∧ t.regs.sp = s.regs.sp ∧
      t.regs.f = s.regs.f ∧ Advances len m s t := by
  cases o
  case reg r =>
    obtain ⟨t, run, value, ⟨kept, sp, f⟩, bus, advances⟩ := finish_writeR8_effect len m v s r
    exact ⟨t, run, ⟨value, kept, bus⟩, sp, f, advances⟩
  case memHl =>
    obtain ⟨t, run, stored, ⟨kept, sp, f⟩, advances⟩ := finish_memWrite_effect len m v s (readHl s)
    exact ⟨t, run, ⟨kept, stored⟩, sp, f, advances⟩

theorem rotateA_effect (op : RotOp) (s : State) :
    ∃ t, rotateA op s = .next t ∧
      (t.regs.a.toNat = (rotated op s.regs.a.toNat (bitNat (getFlags s).cy)).1 ∧
        HasFlags false false false (rotated op s.regs.a.toNat (bitNat (getFlags s).cy)).2 t) ∧
      KeepsR8 [.a] s t ∧ t.regs.sp = s.regs.sp ∧ KeepsBus s t ∧ Advances 1 1 s t := by
  rw [← toNat_rotResult, ← rotResult_carry]
  obtain ⟨t, run, ⟨⟨value, kept, bus⟩, flags⟩, sp, advances⟩ := finish_setFlags_writeOperand_effect 1 1
    (accRotFlags (rotResult op s.regs.a (getFlags s).cy)) s (.reg .a) (rotResult op s.regs.a (getFlags s).cy).1
  exact ⟨t, run, ⟨congrArg BitVec.toNat value, flags⟩, kept, sp, bus, advances⟩

/-! ## The obligations -/

/-- Settles O21: both forms write the result of the rule's integer arithmetic; they differ in Z alone. -/
theorem rotatesAndShifts : Obligations.RotatesAndShifts := by
  refine ⟨fun s i op code row => ?_, fun op o s => ⟨encode_rotate op o, ?_⟩⟩
  · simp only [List.mem_cons, Prod.mk.injEq, List.not_mem_nil, or_false] at row
    obtain ⟨rfl, rfl, rfl⟩ | ⟨rfl, rfl, rfl⟩ | ⟨rfl, rfl, rfl⟩ | ⟨rfl, rfl, rfl⟩ := row
    · exact ⟨rfl, rotateA_effect .rlc s⟩
    · exact ⟨rfl, rotateA_effect .rrc s⟩
    · exact ⟨rfl, rotateA_effect .rl s⟩
    · exact ⟨rfl, rotateA_effect .rr s⟩
  · rw [exec_rotate, rotateOperand, rotFlags_rotResult, rotResult_eq_byteOf, writeBackCost_eq_operandCost]
    exact finish_setFlags_writeOperand_effect 2 (operandCost o 2 4) _ s o _

/-- Settles O22: BIT writes the flags alone, RES and SET their operand alone, with the mask's one bit cleared or set. -/
theorem bitInstructions : Obligations.BitInstructions := by
  intro b o s
  refine ⟨⟨encode_bitTest b o, ?_⟩, ⟨encode_bitReset b o, ?_⟩, ⟨encode_bitSet b o, ?_⟩⟩
  · rw [exec_bitTest, testBit, bitTestCost_eq_operandCost]
    exact finish_setFlags_effect 2 (operandCost o 2 3) (bitTestFlags (readOperand o s) b.val (getFlags s)) s
  · rw [exec_bitReset, resetBit, writeBackCost_eq_operandCost]
    obtain ⟨t, run, written, frame⟩ :=
      finish_writeOperand_effect 2 (operandCost o 2 4) s o (readOperand o s &&& ~~~bitMask b.val)
    exact ⟨t, _, run, written, getLsbD_and_not_bitMask _ b, frame⟩
  · rw [exec_bitSet, setBit, writeBackCost_eq_operandCost]
    obtain ⟨t, run, written, frame⟩ := finish_writeOperand_effect 2 (operandCost o 2 4) s o (readOperand o s ||| bitMask b.val)
    exact ⟨t, _, run, written, getLsbD_or_bitMask _ b, frame⟩

end Sys2Proof.Machine
end

section
/-!
Control transfer (44_control.md). Every form sets PC after its fetch (`finish_setPc_effect`), pushes and sets PC
(`finish_callTo_effect`), or pops PC (`finish_returned_effect`). A form not taken is a jump to the address that its own fetch
reached, and a conditional form has the effect of the branch that its condition picks (`conditional_effect`).
-/

namespace Sys2Proof.Machine

open Sys2Proof Sys2Proof.Statements

/-! ## The words of each family, by its fields (30 R146, R148) -/

theorem encode_jpIf (cc : Cond) (a : Word) :
    encode (Families.jpIf cc a) = [byteOf (0xC2 + 8 * condField cc), loByte a, hiByte a] := by
  cases cc <;> rfl

theorem encode_jrIf (cc : Cond) (n : Byte) : encode (Families.jrIf cc n) = [byteOf (0x20 + 8 * condField cc), n] := by
  cases cc <;> rfl

theorem encode_callIf (cc : Cond) (a : Word) :
    encode (Families.callIf cc a) = [byteOf (0xC4 + 8 * condField cc), loByte a, hiByte a] := by
  cases cc <;> rfl

theorem encode_retIf (cc : Cond) : encode (Families.retIf cc) = [byteOf (0xC0 + 8 * condField cc)] := by cases cc <;> rfl

theorem encode_rst (y : Fin 8) : encode (Families.rst y) = [byteOf (0xC7 + 8 * y.val)] := by fin_cases y <;> rfl

/-! ## Targets (44 R334, R341) -/

/-- The same signed addition as SP plus a displacement. -/
theorem toNat_relativeTarget (pc : Word) (n : Byte) : ((relativeTarget pc n).toNat : Int) = ((pc.toNat : Int) + n.toInt) % 65536 :=
  toNat_spPlus pc n

theorem rstTarget_eq (y : Nat) : rstTarget y = BitVec.ofNat 16 (8 * y) := congrArg (BitVec.ofNat 16) (Nat.mul_comm y 8)

/-! ## Conditions (44 R330) -/

theorem condHolds_iff (cc : Cond) (s : State) : condHolds cc s = true ↔ condTrue cc s := by
  cases cc
  case nz => exact .of_eq (Bool.not_eq_true' _)
  case z => exact Iff.rfl
  case nc => exact .of_eq (Bool.not_eq_true' _)
  case c => exact Iff.rfl

/-- A conditional form, from the effects of its two branches: `P` of the taken one, `Q` of the other, and the frame `F` of both. -/
theorem conditional_effect {cc : Cond} {s : State} {taken otherwise : Result} {P Q F : State → Prop}
    (whenTaken : ∃ t, taken = .next t ∧ P t ∧ F t) (whenNot : ∃ t, otherwise = .next t ∧ Q t ∧ F t) :
    ∃ t, (if condHolds cc s then taken else otherwise) = .next t ∧ (condTrue cc s → P t) ∧ (¬condTrue cc s → Q t) ∧ F t := by
  by_cases holds : condTrue cc s
  · obtain ⟨t, run, effect, frame⟩ := whenTaken
    exact ⟨t, (if_pos ((condHolds_iff cc s).mpr holds)).trans run, fun _ => effect, fun fails => absurd holds fails, frame⟩
  · obtain ⟨t, run, effect, frame⟩ := whenNot
    exact ⟨t, (if_neg (mt (condHolds_iff cc s).mp holds)).trans run, fun met => absurd met holds, fun _ => effect, frame⟩

/-! ## What the shared operations do -/

/-- PC set last: like `Advances.of_effects`, but to any address. -/
theorem GoesTo.of_effects {len : Nat} {s u : State} (a : Word) (m : Nat) (effects : Effects (afterFetch len s) u) :
    GoesTo a m s { setPc a u with cycles := m } := by
  obtain ⟨ime, imeDelay, halted, haltBug, failure, _⟩ := effects.keeps
  exact ⟨rfl, haltBug, rfl, ime, imeDelay, halted, failure⟩

section Transfers

variable (len m : Nat) (a : Word) (s : State)

theorem finish_setPc_effect :
    ∃ t, finish m (setPc a (afterFetch len s)) = .next t ∧ GoesTo a m s t ∧ KeepsRegs [] s t ∧ KeepsBus s t :=
  ⟨_, rfl, .of_effects a m .refl, ⟨fun r _ => readR8_afterFetch r len s, rfl, rfl⟩, .of_sameBus (sameBus_afterFetch len s)⟩

/-- A form not taken. -/
theorem finish_afterFetch_effect :
    ∃ t, finish m (afterFetch len s) = .next t ∧ Advances len m s t ∧ KeepsRegs [] s t ∧ KeepsBus s t :=
  finish_setPc_effect len m (pcAfterFetch len s) s

theorem push16_afterFetch_sameBus (v : Word) :
    SameBus (memWrite (s.regs.sp - 2) (loByte v) (memWrite (s.regs.sp - 1) (hiByte v) s)) (push16 v (afterFetch len s)) :=
  have onBus := memWrite_congr (sameBus_afterFetch len s) (s.regs.sp - 1) (hiByte v)
  (memWrite_congr onBus (s.regs.sp - 2) (loByte v)).trans (push16_sameBus v (afterFetch len s))

theorem finish_callTo_effect :
    ∃ t, finish m (callTo a len s) = .next t ∧ (Pushes (pcAfterFetch len s) s t ∧ GoesTo a m s t) ∧ KeepsR8 [] s t ∧
      t.regs.f = s.regs.f := by
  unfold callTo
  generalize pcAfterFetch len s = v
  have bus := push16_afterFetch_sameBus len s v
  exact ⟨_, rfl, ⟨⟨.of_sameBus bus, push16_sp v (afterFetch len s)⟩, .of_effects a m (.push v .refl)⟩,
    fun r _ => readR8_push16 r v (afterFetch len s), push16_f v (afterFetch len s)⟩

theorem finish_returned_effect :
    ∃ t, finish m (returned s) = .next t ∧ (GoesTo (popValue s) m s t ∧ t.regs.sp = s.regs.sp + 2) ∧ KeepsR8 [] s t ∧
      t.regs.f = s.regs.f ∧ KeepsBus s t :=
  ⟨_, rfl, ⟨.of_effects (popValue s) m (.sp _ .refl), rfl⟩, fun r _ => readR8_popped r (afterFetch 1 s), rfl,
    .of_sameBus (sameBus_setSp (s.regs.sp + 2) s)⟩

/-- JR relative to the address after its two bytes. -/
theorem jumpRelative_effect (n : Byte) :
    ∃ t, jumpRelative n s = .next t ∧
      ((t.regs.pc.toNat : Int) = (((pcAfterFetch 2 s).toNat : Int) + n.toInt) % 65536 ∧ GoesTo t.regs.pc 3 s t) ∧
      KeepsRegs [] s t ∧ KeepsBus s t := by
  obtain ⟨t, run, ⟨pc, rest⟩, frame⟩ := finish_setPc_effect 2 3 (relativeTarget (pcAfterFetch 2 s) n) s
  exact ⟨t, run, ⟨pc ▸ toNat_relativeTarget _ n, rfl, rest⟩, frame⟩

end Transfers

/-! ## The obligations -/

/-- Settles O23: each form sets PC after its fetch; JR's address is the signed sum of `toNat_relativeTarget`. -/
theorem jumps : Obligations.Jumps := by
  refine ⟨fun a s => ⟨rfl, finish_setPc_effect 3 4 a s⟩, fun cc a s => ⟨encode_jpIf cc a, ?_⟩,
    fun s => ⟨rfl, finish_setPc_effect 1 1 (readHl s) s⟩, fun n s => ⟨rfl, ?_⟩, fun cc n s => ⟨encode_jrIf cc n, ?_⟩⟩
  · rw [exec_jpIf]
    exact conditional_effect (finish_setPc_effect 3 4 a s) (finish_afterFetch_effect 3 3 s)
  · obtain ⟨t, run, ⟨target, goes⟩, frame⟩ := jumpRelative_effect s n
    exact ⟨t, run, target, goes, frame⟩
  · rw [exec_jrIf]
    exact conditional_effect (jumpRelative_effect s n) (finish_afterFetch_effect 2 2 s)

/-- Settles O24: each form is a call to its address, or for CALL cc the fetch alone. -/
theorem calls : Obligations.Calls := by
  refine ⟨fun a s => ⟨rfl, ?_⟩, fun cc a s => ⟨encode_callIf cc a, ?_⟩, fun y s => ⟨encode_rst y, ?_⟩⟩
  · obtain ⟨t, run, ⟨pushed, goes⟩, frame⟩ := finish_callTo_effect 3 6 a s
    exact ⟨t, run, pushed, goes, frame⟩
  · rw [exec_callIf]
    obtain ⟨t, run, advances, ⟨kept, sp, f⟩, bus⟩ := finish_afterFetch_effect 3 3 s
    exact conditional_effect (finish_callTo_effect 3 6 a s) ⟨t, run, ⟨advances, bus, sp⟩, kept, f⟩
  · rw [exec_rst, restart, rstTarget_eq]
    obtain ⟨t, run, ⟨pushed, goes⟩, frame⟩ := finish_callTo_effect 1 4 (BitVec.ofNat 16 (8 * y.val)) s
    exact ⟨t, run, pushed, goes, frame⟩

/-- Settles O25: each form pops PC, or for RET cc not taken is the fetch alone; RETI writes IME and its deferral besides. -/
theorem returns : Obligations.Returns := by
  intro s target
  refine ⟨⟨rfl, ?_⟩, fun cc => ⟨encode_retIf cc, ?_⟩, ⟨rfl, ?_⟩⟩
  · obtain ⟨t, run, ⟨goes, sp⟩, frame⟩ := finish_returned_effect 4 s
    exact ⟨t, run, goes, sp, frame⟩
  · rw [exec_retIf]
    obtain ⟨t, run, advances, ⟨kept, sp, f⟩, bus⟩ := finish_afterFetch_effect 1 2 s
    exact conditional_effect (finish_returned_effect 5 s) ⟨t, run, ⟨advances, sp⟩, kept, f, bus⟩
  · have bus : SameBus s (returned s) := sameBus_setSp (s.regs.sp + 2) s
    exact ⟨_, rfl, rfl, rfl, rfl, rfl, rfl, rfl, rfl, rfl, fun r _ => readR8_popped r (afterFetch 1 s), rfl, .of_sameBus bus⟩

end Sys2Proof.Machine
end

section
/-!
System instructions (45_system.md), and what the rest of the step makes of them: HALT's bug, DI and EI up to the interrupt check
that ends their step, and the twelve undefined opcodes, which end theirs at once. The step of a CPU that runs is its instruction and
its end (`step_of_exec`, `step_of_failing_exec`). The bytes fetched begin with the words of the instruction (`encode_decodeAt`), so
the instructions that raise are those of the twelve bytes (`raises_decodeAt_iff`).
-/

namespace Sys2Proof.Machine

open Sys2Proof Sys2Proof.Statements

/-! ## The interrupt control -/

/-- The HALT bug is pending only where an interrupt is: so it stands after HALT, until the end of its step (45 R372). -/
abbrev HaltBugWithInterrupt (s : State) : Prop := s.haltBug = true → s.ie &&& s.iflag ≠ 0

/-- Interrupt entry leaves nothing of the interrupt control set (60 R423, R425). -/
theorem service_clears (k : Nat) (s : State) :
    (service k s).ime = false ∧ (service k s).imeDelay = 0 ∧ (service k s).haltBug = false := by
  simp [service, enterInterrupt]

/-- With the CPU awake, HALT sets its bug only while IME is clear, EI starts a countdown only then, and DI and RETI drop it. -/
theorem InterruptControlConsistent.exec_keeps {i : Instr} {s t : State} (h : InterruptControlConsistent s)
    (awake : s.halted = false) (run : exec i s = .next t) : InterruptControlConsistent t := by
  obtain ⟨delay, _, masked⟩ := h
  cases exec_result run with
  | raises => exact ⟨delay, by simp [awake], masked⟩
  | raisesHaltBug _ off => exact ⟨delay, by simp [awake], fun _ => off⟩
  | halts => exact ⟨delay, by simp, by simp⟩
  | disables => exact ⟨by simp, by simp, by simp⟩
  | defers _ off => exact ⟨by simp [off], by simp, by simp⟩
  | returns => exact ⟨fun _ => rfl, fun _ => rfl, fun bug => nomatch bug⟩
  | plain len _ effects =>
    obtain ⟨ime, imeDelay, _, haltBug, _, _⟩ := effects.keeps
    exact ⟨by simpa [ime, imeDelay] using delay, by simp [haltBug], by simp [haltBug]⟩

/-- Only HALT leaves its bug pending, and only with an interrupt pending; every other fetch clears it. -/
theorem haltBugWithInterrupt_of_exec {i : Instr} {s t : State} (run : exec i s = .next t) (goesOn : t.failure = none) :
    HaltBugWithInterrupt t := by
  cases exec_result run with
  | raises => cases goesOn
  | raisesHaltBug _ _ pending => exact fun _ => pending
  | halts => simp
  | disables => simp
  | defers => simp
  | returns => exact fun bug => nomatch bug
  | plain len _ effects =>
    obtain ⟨_, _, _, haltBug, _, _⟩ := effects.keeps
    simp [haltBug]

/-- No clock takes a request back. -/
theorem flagsAfterClocks_pending {t : State} (h : t.ie &&& t.iflag ≠ 0) : t.ie &&& flagsAfterClocks t ≠ 0 := by
  unfold flagsAfterClocks
  split
  · rw [BitVec.and_or_distrib_left]
    exact fun none => h (BitVec.or_eq_zero_iff.mp none).1
  · exact h

/-- A countdown that ends sets IME and is over. Where the HALT bug is pending an interrupt is too, and with IME set its entry clears
the bug (60 R403, R425). -/
theorem InterruptControlConsistent.endOfStep_keeps {t : State} (h : InterruptControlConsistent t)
    (underInterrupt : HaltBugWithInterrupt t) : InterruptControlConsistent (endOfStep t) := by
  obtain ⟨delay, sleeping, masked⟩ := h
  have counted : (beforeCheck t).ime = true → (beforeCheck t).imeDelay = 0 := by
    simp only [beforeCheck, Bool.or_eq_true, decide_eq_true_eq]
    rintro (on | last)
    · simp [delay on]
    · simp [last]
  rw [endOfStep_eq]
  by_cases pending : (beforeCheck t).ie &&& (beforeCheck t).iflag = 0
  · have noBug : ¬t.haltBug = true := fun bug => flagsAfterClocks_pending (underInterrupt bug) pending
    rw [interruptCheck_none pending]
    exact ⟨counted, sleeping, fun bug => absurd bug noBug⟩
  cases on : (beforeCheck t).ime with
  | false =>
    rw [interruptCheck_wakes pending on]
    exact ⟨counted, by simp, fun _ => on⟩
  | true =>
    obtain ⟨k, _, _, serviced⟩ := interruptCheck_services pending on
    rw [serviced]
    obtain ⟨ime, imeDelay, haltBug⟩ := service_clears k.val { beforeCheck t with halted := false }
    exact ⟨fun _ => imeDelay, fun _ => haltBug, fun _ => ime⟩

/-- Settles O56: a halted step begins with no HALT bug, and an instruction leaves one only with an interrupt pending; so the end of
the step keeps the three clauses. -/
theorem stepKeepsInterruptControl : Obligations.StepKeepsInterruptControl := by
  intro s t consistent stepped
  obtain ⟨_, ⟨asleep, rfl⟩ | ⟨awake, u, run, ⟨goesOn, rfl⟩ | ⟨_, rfl⟩⟩⟩ := step_cases stepped
  · have waiting : InterruptControlConsistent { s with cycles := 1 } := consistent
    obtain ⟨_, noBug, _⟩ := consistent
    exact waiting.endOfStep_keeps (by simp [noBug asleep])
  · exact (consistent.exec_keeps awake run).endOfStep_keeps (haltBugWithInterrupt_of_exec run goesOn)
  · exact consistent.exec_keeps awake run

/-! ## What NOP, DI, EI and HALT do (45 R370-R374) -/

/-- What the fetch alone leaves of the registers and the bus, so that an instruction may still write the interrupt control. -/
theorem afterFetch_frame (len : Nat) (s : State) : KeepsRegs [] s (afterFetch len s) ∧ SameBus s (afterFetch len s) :=
  ⟨⟨fun r _ => readR8_afterFetch r len s, rfl, rfl⟩, sameBus_afterFetch len s⟩

/-- Settles O26: NOP is its fetch, and the other three write the interrupt control alone after theirs. -/
theorem systemInstructions : Obligations.SystemInstructions := by
  refine ⟨fun s => ⟨⟨rfl, finish_afterFetch_effect 1 1 s⟩, ⟨rfl, ?_⟩, ⟨rfl, ?_⟩⟩, fun s => ⟨rfl, ?_⟩⟩
  all_goals obtain ⟨kept, bus⟩ := afterFetch_frame 1 s
  · exact ⟨_, rfl, rfl, rfl, rfl, rfl, rfl, rfl, rfl, kept, .of_sameBus bus⟩
  · rcases enableInterrupts_cases s with ⟨off, idle, run⟩ | ⟨ignored, run⟩
    · exact ⟨_, run, rfl, (if_pos ⟨off, idle⟩).symm, rfl, rfl, rfl, rfl, rfl, kept, .of_sameBus bus⟩
    · exact ⟨_, run, rfl, (if_neg ignored).symm, rfl, rfl, rfl, rfl, rfl, kept, .of_sameBus bus⟩
  · rcases haltCpu_cases s with ⟨off, pending, run⟩ | ⟨quiet, run⟩
    · exact ⟨_, run, fun _ => ⟨rfl, rfl⟩, fun quiet => absurd ⟨off, pending⟩ quiet, rfl, rfl, rfl, rfl, rfl, kept, .of_sameBus bus⟩
    · exact ⟨_, run, fun bug => absurd bug quiet, fun _ => ⟨rfl, rfl⟩, rfl, rfl, rfl, rfl, rfl, kept, .of_sameBus bus⟩

/-! ## PREFIX_CB (45 R375) -/

theorem operandOfField_eq {z : Nat} (h : z < 8) : operandOfField z = operands.getD z .memHl := by
  revert z; decide

theorem rotOfField_eq {y : Nat} (h : y < 8) : rotOfField y = rotOps.getD y .rlc := by
  revert y; decide

/-- PREFIX_CB reads the fields of its second byte as the extended table does. -/
theorem extendedOp_eq (op2 : Byte) (s : State) : extendedOp op2 s = exec (extendedByFields op2) s := by
  have hy : op2.toNat / 8 % 8 < 8 := Nat.mod_lt _ (by decide)
  have bit : (Fin.ofNat 8 (op2.toNat / 8 % 8)).val = op2.toNat / 8 % 8 := Nat.mod_eq_of_lt hy
  unfold extendedOp extendedByFields
  dsimp only
  rw [operandOfField_eq (Nat.mod_lt _ (by decide)), rotOfField_eq hy]
  generalize op2.toNat / 64 = quadrant
  match quadrant with
  | 0 => exact (exec_rotate _ _ s).symm
  | 1 => exact ((exec_bitTest _ _ s).trans (congrArg (testBit · _ s) bit)).symm
  | 2 => exact ((exec_bitReset _ _ s).trans (congrArg (resetBit · _ s) bit)).symm
  | _ + 3 => exact ((exec_bitSet _ _ s).trans (congrArg (setBit · _ s) bit)).symm

/-- Settles O28: both are one shared operation, which always answers. -/
theorem prefixRunsTheExtendedInstruction : Obligations.PrefixRunsTheExtendedInstruction := by
  intro op2 s
  obtain ⟨t, run⟩ := exec_answers (.prefixCb op2) s
  exact ⟨rfl, t, run, (extendedOp_eq op2 s).symm.trans run⟩

/-! ## The instructions that raise (45 R371, R376) -/

/-- The instruction raises UnimplementedOpcode with the opcode byte: an illegal opcode, or STOP. -/
abbrev Raises (i : Instr) (op : Byte) : Prop := (i, op) ∈ Families.illegalOpcodes ∨ ∃ n, i = .stop n ∧ op = 0x10

theorem encode_exec_illegal {p : Instr × Byte} (illegal : p ∈ Families.illegalOpcodes) (s : State) :
    encode p.1 = [p.2] ∧ exec p.1 s = .next { s with failure := some ⟨s.regs.pc, p.2⟩ } := by
  fin_cases illegal <;> exact ⟨rfl, rfl⟩

/-- Settles O27: each of the twelve is `raiseUnimplemented` with its own byte. -/
theorem undefinedOpcodesLatchTheFailure : Obligations.UndefinedOpcodesLatchTheFailure :=
  fun s => ⟨fun _ illegal => encode_exec_illegal illegal s, fun _ => ⟨rfl, rfl⟩⟩

theorem Raises.exec_eq {i : Instr} {op : Byte} (raises : Raises i op) (s : State) :
    exec i s = .next { s with failure := some ⟨s.regs.pc, op⟩ } := by
  obtain illegal | ⟨n, rfl, rfl⟩ := raises
  · exact (encode_exec_illegal illegal s).2
  · rfl

theorem Raises.encode_head {i : Instr} {op : Byte} (raises : Raises i op) : (encode i).head? = some op := by
  obtain illegal | ⟨n, rfl, rfl⟩ := raises
  · rw [(encode_exec_illegal illegal State.reset).1]
    rfl
  · rfl

/-- The twelve bytes are STOP's and those of the illegal opcodes. -/
theorem undefinedBytes_eq : undefinedBytes = 0x10 :: Families.illegalOpcodes.map Prod.snd := rfl

theorem Raises.mem_undefinedBytes {i : Instr} {op : Byte} (raises : Raises i op) : op ∈ undefinedBytes := by
  rw [undefinedBytes_eq]
  obtain illegal | ⟨_, _, rfl⟩ := raises
  · exact List.mem_cons_of_mem 0x10 (List.mem_map_of_mem (f := Prod.snd) illegal)
  · exact List.mem_cons_self

/-! ## The bytes fetched -/

/-- The decoder reads three bytes or fewer, so the words of the instruction are the first of the three (30 R142). -/
theorem encode_decodeAt (b0 b1 b2 : Byte) : ∃ rest, encode (decodeAt b0 b1 b2) ++ rest = [b0, b1, b2] := by
  have long : lengthOf b0 ≤ 3 := by
    unfold lengthOf entryLength
    split <;> decide
  obtain ⟨_, words⟩ := decode_eq_ok_iff.mp (decode_cons_eq_ok_iff.mpr ⟨long, rfl, rfl⟩ : decode [b0, b1, b2] = .ok (_, _))
  exact ⟨_, words⟩

theorem decodeAt_illegal {p : Instr × Byte} (illegal : p ∈ Families.illegalOpcodes) (b1 b2 : Byte) :
    decodeAt p.2 b1 b2 = p.1 := by
  fin_cases illegal <;> rfl

theorem raises_decodeAt {b0 : Byte} (undefined : b0 ∈ undefinedBytes) (b1 b2 : Byte) : Raises (decodeAt b0 b1 b2) b0 := by
  rw [undefinedBytes_eq] at undefined
  obtain rfl | listed := List.mem_cons.mp undefined
  · exact .inr ⟨b1, rfl, rfl⟩
  · obtain ⟨p, illegal, rfl⟩ := List.mem_map.mp listed
    rw [decodeAt_illegal illegal]
    exact .inl illegal

/-- The instructions that raise are those of the twelve bytes, each with its own byte (60 R410). -/
theorem raises_decodeAt_iff {b0 b1 b2 op : Byte} : Raises (decodeAt b0 b1 b2) op ↔ op = b0 ∧ b0 ∈ undefinedBytes := by
  constructor
  · intro raises
    obtain ⟨rest, words⟩ := encode_decodeAt b0 b1 b2
    have head := congrArg List.head? words
    rw [List.head?_append, raises.encode_head] at head
    obtain rfl : op = b0 := Option.some.inj head
    exact ⟨rfl, raises.mem_undefinedBytes⟩
  · rintro ⟨rfl, undefined⟩
    exact raises_decodeAt undefined b1 b2

/-- Any other instruction goes on. -/
theorem failure_of_exec {i : Instr} {s t : State} (run : exec i s = .next t) (running : s.failure = none)
    (defined : ∀ op, ¬Raises i op) : t.failure = none := by
  cases exec_result run with
  | raises op raised => exact absurd raised (defined op)
  | raisesHaltBug => exact running
  | halts => exact running
  | disables => exact running
  | defers => exact running
  | returns => exact running
  | plain len _ effects =>
    obtain ⟨_, _, _, _, failure, _⟩ := effects.keeps
    exact failure.trans running

/-! ## The step of a CPU that runs (60 R400, R410) -/

section Step

variable {s t : State}

theorem step_of_exec (running : s.failure = none) (awake : s.halted = false) (run : exec (fetchInstr s) s = .next t)
    (goesOn : t.failure = none) : step s = .next (endOfStep t) := by
  simp [step, running, awake, run, completeStep, goesOn]

theorem step_of_failing_exec (running : s.failure = none) (awake : s.halted = false) (run : exec (fetchInstr s) s = .next t)
    (fails : t.failure ≠ none) : step s = .next t := by
  simp [step, running, awake, run, completeStep, Option.isSome_iff_ne_none.mpr fails]

theorem hostStep_of_step (stepped : step s = .next t) : hostStep s = .next (stepResult t, t) := by
  rw [hostStep, stepped]

end Step

@[simp] theorem service_failure (k : Nat) (s : State) : (service k s).failure = s.failure := by
  simp [service, enterInterrupt]

/-- The end of a step latches no failure. -/
theorem endOfStep_failure (t : State) : (endOfStep t).failure = t.failure := by
  rw [endOfStep_eq]
  unfold interruptCheck
  split_ifs
  · rfl
  · rw [service_failure]
    rfl
  · rfl

/-- Settles O32: at one of the twelve bytes the instruction raises and ends the step; at any other neither the instruction nor the
end of the step latches a failure. -/
theorem onlyTwelveOpcodesFail : Obligations.OnlyTwelveOpcodesFail := by
  intro s running awake
  refine ⟨fun undefined => ?_, fun defined => ?_⟩
  · have raised : exec (fetchInstr s) s = .next _ := (raises_decodeAt_iff.mpr ⟨rfl, undefined⟩).exec_eq s
    have failed := step_of_failing_exec running awake raised (by simp)
    exact ⟨failed, hostStep_of_step failed⟩
  · obtain ⟨t, run⟩ := exec_answers (fetchInstr s) s
    have goesOn := failure_of_exec run running (fun op raises => defined (raises_decodeAt_iff.mp raises).2)
    have stepped := step_of_exec running awake run goesOn
    have noFailure := (endOfStep_failure t).trans goesOn
    refine ⟨_, stepped, noFailure, ?_⟩
    rw [hostStep_of_step stepped, stepResult, noFailure]

/-! ## The steps of DI and of a deferring EI -/

/-- With IME clear and no countdown that ends, the end of a step takes no interrupt: at most it wakes the CPU (60 R402, R403). -/
theorem step_of_masked {s t : State} (running : s.failure = none) (awake : s.halted = false)
    (run : exec (fetchInstr s) s = .next t) (goesOn : t.failure = none) (off : t.ime = false) (later : t.imeDelay ≠ 1) :
    ∃ asleep, step s = .next { beforeCheck t with halted := asleep } := by
  have masked : (beforeCheck t).ime = false := by simp [beforeCheck, off, later]
  rw [step_of_exec running awake run goesOn, endOfStep_eq]
  by_cases pending : (beforeCheck t).ie &&& (beforeCheck t).iflag = 0
  · exact ⟨t.halted, congrArg _ (interruptCheck_none pending)⟩
  · exact ⟨false, congrArg _ (interruptCheck_wakes pending masked)⟩

/-- Settles O37: DI leaves IME and the countdown clear, EI a countdown of 2; so the check that ends either step finds IME clear. -/
theorem diAndEiStepsTakeNoInterrupt : Obligations.DiAndEiStepsTakeNoInterrupt := by
  intro s running awake
  refine ⟨fun di => ?_, fun ei off idle => ?_⟩
  · have run : exec (fetchInstr s) s = .next { afterFetch 1 s with ime := false, imeDelay := 0, cycles := 1 } := by
      rw [di]
      rfl
    obtain ⟨asleep, stepped⟩ := step_of_masked running awake run running rfl (by simp)
    exact ⟨_, stepped, rfl, rfl, rfl, rfl, rfl⟩
  · have run : exec (fetchInstr s) s = .next { afterFetch 1 s with imeDelay := 2, cycles := 1 } := by
      rw [ei]
      obtain ⟨_, _, defers⟩ | ⟨ignored, _⟩ := enableInterrupts_cases s
      · exact defers
      · exact absurd ⟨off, idle⟩ ignored
    obtain ⟨asleep, stepped⟩ := step_of_masked running awake run running off (by simp)
    refine ⟨_, stepped, ?_, rfl, rfl, rfl, rfl⟩
    simp [beforeCheck, off]

end Sys2Proof.Machine
end

section
/-!
The timer (60_exceptions.md section 5). A clock makes the signal fall exactly where the divider becomes 0 modulo TIMA's period
(`timerSig_falls_iff`), so a clock is the reload's countdown, the divider's increment and, at the end of a period, one TIMA increment
(`timerTick_eq`). Runs of clocks are cut at the ends of periods.
-/

namespace Sys2Proof.Machine

open Sys2Proof Sys2Proof.Statements

/-! ## TIMA's period -/

theorem timaPeriod_cases (tac : BitVec 3) :
    timaPeriod tac = 16 ∨ timaPeriod tac = 64 ∨ timaPeriod tac = 256 ∨ timaPeriod tac = 1024 := by
  revert tac
  decide

theorem timaPeriod_eq_two_pow (tac : BitVec 3) : timaPeriod tac = 2 ^ (timerSel tac + 1) := by
  revert tac
  decide

theorem timaPeriod_dvd (tac : BitVec 3) : timaPeriod tac ∣ 2 ^ 16 := by
  revert tac
  decide

/-- The divider wraps at the end of a period, so its wrap does not move the period. -/
theorem toNat_add_one_mod_timaPeriod (d : Word) (tac : BitVec 3) :
    (d + 1).toNat % timaPeriod tac = (d.toNat + 1) % timaPeriod tac :=
  Nat.mod_mod_of_dvd (d.toNat + 1) (timaPeriod_dvd tac)

theorem toNat_add_one_mod_of_within {d : Word} {tac : BitVec 3} (within : d.toNat % timaPeriod tac + 1 < timaPeriod tac) :
    (d + 1).toNat % timaPeriod tac = d.toNat % timaPeriod tac + 1 := by
  rw [toNat_add_one_mod_timaPeriod, ← Nat.mod_add_mod, Nat.mod_eq_of_lt within]

theorem toNat_add_one_mod_add_lt {d : Word} {tac : BitVec 3} {n : Nat}
    (within : d.toNat % timaPeriod tac + (n + 1) < timaPeriod tac) : (d + 1).toNat % timaPeriod tac + n < timaPeriod tac := by
  rw [toNat_add_one_mod_of_within (by omega)]
  omega

/-- One clock earlier a run ends as many periods, and one more where that clock ends a period. -/
theorem periods_succ (d : Word) (tac : BitVec 3) (n : Nat) :
    (d.toNat % timaPeriod tac + (n + 1)) / timaPeriod tac =
      (if (d.toNat + 1) % timaPeriod tac = 0 then 1 else 0) + ((d + 1).toNat % timaPeriod tac + n) / timaPeriod tac := by
  rw [toNat_add_one_mod_timaPeriod]
  obtain h | h | h | h := timaPeriod_cases tac <;> rw [h] <;> split <;> omega

/-! ## One clock -/

/-- The signal falls at the next clock: it is enabled, and the divider becomes 0 modulo the period (60 R432). -/
abbrev FallsNext (t : Timer) : Prop := t.tac.getLsbD 2 = true ∧ (t.divCounter.toNat + 1) % timaPeriod t.tac = 0

theorem timerSel_cases (tac : BitVec 3) : timerSel tac = 3 ∨ timerSel tac = 5 ∨ timerSel tac = 7 ∨ timerSel tac = 9 := by
  revert tac
  decide

/-- The selected bit falls where it and all bits below it become 0. -/
theorem getLsbD_timerSel_falls (d : Word) (tac : BitVec 3) :
    d.getLsbD (timerSel tac) = true ∧ (d + 1).getLsbD (timerSel tac) = false ↔ (d.toNat + 1) % timaPeriod tac = 0 := by
  have wrapped : (d + 1).toNat = (d.toNat + 1) % 65536 := rfl
  rw [timaPeriod_eq_two_pow, BitVec.getLsbD, BitVec.getLsbD, wrapped, Nat.testBit_eq_decide_div_mod_eq,
    Nat.testBit_eq_decide_div_mod_eq, decide_eq_true_iff, decide_eq_false_iff_not]
  obtain h | h | h | h := timerSel_cases tac <;> rw [h] <;> omega

theorem timerSig_falls_iff (t : Timer) :
    (timerSig t.divCounter t.tac && !timerSig (t.divCounter + 1) t.tac) = true ↔ FallsNext t := by
  rw [FallsNext, ← getLsbD_timerSel_falls, timerSig, timerSig]
  cases t.tac.getLsbD 2 <;> simp

@[simp] theorem timerReloadTick_divCounter (t : Timer) : (timerReloadTick t).divCounter = t.divCounter := by
  unfold timerReloadTick; split_ifs <;> rfl

@[simp] theorem timerReloadTick_tac (t : Timer) : (timerReloadTick t).tac = t.tac := by
  unfold timerReloadTick; split_ifs <;> rfl

/-- One clock: the reload's countdown and the divider's increment, and one TIMA increment where the signal falls (60 R432). -/
theorem timerTick_eq (t : Timer) :
    timerTick t =
      if FallsNext t then timaIncrement { timerReloadTick t with divCounter := t.divCounter + 1 }
      else ({ timerReloadTick t with divCounter := t.divCounter + 1 }, false) := by
  simp only [timerTick, timerEdge, timerReloadTick_divCounter, timerReloadTick_tac, timerSig_falls_iff]

theorem timerReloadTick_idle {t : Timer} (idle : t.timaReload = 0) : timerReloadTick t = t := if_pos idle

theorem timerTick_idle {t : Timer} (idle : t.timaReload = 0) :
    timerTick t =
      if FallsNext t then timaIncrement { t with divCounter := t.divCounter + 1 }
      else ({ t with divCounter := t.divCounter + 1 }, false) := by
  rw [timerTick_eq, timerReloadTick_idle idle]

theorem timerReloadTick_counts {t : Timer} (pending : 1 < t.timaReload) :
    timerReloadTick t = { t with timaReload := t.timaReload - 1 } := by
  rw [timerReloadTick, if_neg (by omega), if_neg (by omega)]

theorem timerReloadTick_loads {t : Timer} (last : t.timaReload = 1) :
    timerReloadTick t = { t with timaReload := 0, tima := t.tma } := by
  rw [timerReloadTick, if_neg (by omega), if_pos last]

theorem timaIncrement_overflow {t : Timer} (full : t.tima = 0xFF) :
    timaIncrement t = ({ t with tima := 0x00, timaReload := 4 }, true) := if_pos full

theorem timaIncrement_counts {t : Timer} (below : t.tima ≠ 0xFF) : timaIncrement t = ({ t with tima := t.tima + 1 }, false) :=
  if_neg below

@[simp] theorem timerTick_divCounter (t : Timer) : (timerTick t).1.divCounter = t.divCounter + 1 := by
  simp [timerTick]

/-! ## Runs of clocks -/

theorem timerRun_one (t : Timer) : timerRun 1 t = timerTick t := by simp [timerRun]

theorem timerRun_add (m n : Nat) (t : Timer) :
    timerRun (m + n) t = ((timerRun n (timerRun m t).1).1, (timerRun m t).2 || (timerRun n (timerRun m t).1).2) := by
  induction m generalizing t with
  | zero => simp [timerRun]
  | succ m ih => simp [Nat.add_right_comm, timerRun, ih, Bool.or_assoc]

/-- A first clock without an overflow. -/
theorem timerRun_succ {t u : Timer} (tick : timerTick t = (u, false)) (n : Nat) : timerRun (n + 1) t = timerRun n u := by
  simp [timerRun, tick]

theorem add_one_add_ofNat (d : Word) (n : Nat) : d + 1 + BitVec.ofNat 16 n = d + BitVec.ofNat 16 (n + 1) := by
  rw [BitVec.add_assoc, Nat.add_comm n 1, BitVec.ofNat_add]
  rfl

theorem timerRun_divCounter (n : Nat) (t : Timer) : (timerRun n t).1.divCounter = t.divCounter + BitVec.ofNat 16 n := by
  induction n generalizing t with
  | zero => exact (BitVec.add_zero _).symm
  | succ n ih => rw [timerRun, ih, timerTick_divCounter, add_one_add_ofNat]

theorem timerRun_disabled (n : Nat) {t : Timer} (idle : t.timaReload = 0) (disabled : t.tac.getLsbD 2 = false) :
    timerRun n t = ({ t with divCounter := t.divCounter + BitVec.ofNat 16 n }, false) := by
  induction n generalizing t with
  | zero => simp [timerRun]
  | succ n ih =>
    have tick : timerTick t = ({ t with divCounter := t.divCounter + 1 }, false) := by
      rw [timerTick_idle idle, if_neg fun ⟨enabled, _⟩ => Bool.false_ne_true (disabled.symm.trans enabled)]
    rw [timerRun_succ tick, ih, add_one_add_ofNat]
    exacts [idle, disabled]

/-- Each end of a period is one TIMA increment, as long as none overflows. -/
theorem timerRun_enabled (n : Nat) {t : Timer} (idle : t.timaReload = 0) (enabled : t.tac.getLsbD 2 = true)
    (room : t.tima.toNat + (t.divCounter.toNat % timaPeriod t.tac + n) / timaPeriod t.tac ≤ 0xFF) :
    timerRun n t =
      ({ t with
          divCounter := t.divCounter + BitVec.ofNat 16 n
          tima := byteOf (t.tima.toNat + (t.divCounter.toNat % timaPeriod t.tac + n) / timaPeriod t.tac) }, false) := by
  induction n generalizing t with
  | zero => simp [timerRun, byteOf]
  | succ n ih =>
    rw [periods_succ] at room ⊢
    by_cases falls : (t.divCounter.toNat + 1) % timaPeriod t.tac = 0
    · rw [if_pos falls] at room ⊢
      have below : t.tima ≠ 0xFF := by
        rintro full
        simp [full] at room
      have counted : (t.tima + 1).toNat = t.tima.toNat + 1 := by bv_omega
      have tick : timerTick t = ({ t with divCounter := t.divCounter + 1, tima := t.tima + 1 }, false) := by
        rw [timerTick_idle idle, if_pos ⟨enabled, falls⟩]
        exact timaIncrement_counts below
      rw [← Nat.add_assoc, ← counted] at room ⊢
      rw [timerRun_succ tick, ih, add_one_add_ofNat]
      exacts [idle, enabled, room]
    · rw [if_neg falls, Nat.zero_add] at room ⊢
      have tick : timerTick t = ({ t with divCounter := t.divCounter + 1 }, false) := by
        rw [timerTick_idle idle, if_neg fun ⟨_, fell⟩ => falls fell]
      rw [timerRun_succ tick, ih, add_one_add_ofNat]
      exacts [idle, enabled, room]

/-- A clock within a period counts the reload down and the divider up. -/
theorem timerTick_within {t : Timer} (within : t.divCounter.toNat % timaPeriod t.tac + 1 < timaPeriod t.tac) :
    timerTick t = ({ timerReloadTick t with divCounter := t.divCounter + 1 }, false) := by
  have next := toNat_add_one_mod_of_within within
  rw [toNat_add_one_mod_timaPeriod] at next
  rw [timerTick_eq, if_neg fun ⟨_, ends⟩ => by omega]

theorem timerTick_reloading {t : Timer} (within : t.divCounter.toNat % timaPeriod t.tac + 1 < timaPeriod t.tac)
    (pending : 1 < t.timaReload) :
    timerTick t = ({ t with divCounter := t.divCounter + 1, timaReload := t.timaReload - 1 }, false) := by
  rw [timerTick_within within, timerReloadTick_counts pending]

/-- Clocks within a period that end before the reload. -/
theorem timerRun_reloading (n : Nat) {t : Timer} (pending : n < t.timaReload)
    (within : t.divCounter.toNat % timaPeriod t.tac + n < timaPeriod t.tac) :
    timerRun n t = ({ t with divCounter := t.divCounter + BitVec.ofNat 16 n, timaReload := t.timaReload - n }, false) := by
  induction n generalizing t with
  | zero => simp [timerRun]
  | succ n ih =>
    rw [timerRun_succ (timerTick_reloading (by omega) (by omega)), ih, add_one_add_ofNat, Nat.sub_sub, Nat.add_comm 1]
    exacts [Nat.lt_sub_of_add_lt pending, toNat_add_one_mod_add_lt within]

/-- Clocks within a period up to the reload. -/
theorem timerRun_reloads (n : Nat) {t : Timer} (pending : t.timaReload = n + 1)
    (within : t.divCounter.toNat % timaPeriod t.tac + (n + 1) < timaPeriod t.tac) :
    timerRun (n + 1) t =
      ({ t with divCounter := t.divCounter + BitVec.ofNat 16 (n + 1), tima := t.tma, timaReload := 0 }, false) := by
  induction n generalizing t with
  | zero => rw [timerRun_one, timerTick_within within, timerReloadTick_loads pending]; rfl
  | succ n ih =>
    rw [timerRun_succ (timerTick_reloading (by omega) (by omega)), ih, add_one_add_ofNat]
    exacts [by simp [pending], toNat_add_one_mod_add_lt within]

theorem timerRun_overflow {t : Timer} (idle : t.timaReload = 0) (full : t.tima = 0xFF) (falls : FallsNext t) :
    timerRun 1 t = ({ t with divCounter := t.divCounter + 1, tima := 0x00, timaReload := 4 }, true) := by
  rw [timerRun_one, timerTick_idle idle, if_pos falls]
  exact timaIncrement_overflow full

/-! ## Writes of the timer's registers -/

@[simp] theorem timerSig_zero (tac : BitVec 3) : timerSig 0 tac = false := by simp [timerSig]

/-- A write that leaves the timer `u`, with the TIMA of `t`: one TIMA increment, with its request, where the signal fell. -/
theorem withTimer_timerEdge {t u : Timer} (tima : u.tima = t.tima) (reload : u.timaReload = t.timaReload) (old : Bool)
    (s : State) :
    let w := withTimer (timerEdge old u) s
    if old = true ∧ timerSig u.divCounter u.tac = false then afterFall t w.timer s.iflag w.iflag
    else w.timer = u ∧ w.iflag = s.iflag := by
  simp only [timerEdge, Bool.and_eq_true, Bool.not_eq_true', withTimer_eq]
  by_cases fell : old = true ∧ timerSig u.divCounter u.tac = false
  · simp only [if_pos fell, afterFall, timaIncrement, tima]
    split
    · exact ⟨rfl, rfl, rfl⟩
    · exact ⟨rfl, reload, rfl⟩
  · simp [if_neg fell]

/-! ## The obligations -/

/-- Settles O40: each clock is one increment of the divider, and the I/O read shows its upper byte. -/
theorem dividerCountsEveryClock : Obligations.DividerCountsEveryClock := ⟨timerRun_divCounter, fun _ => rfl⟩

/-- Settles O41, by the runs of an enabled and of a disabled timer. -/
theorem timaCountsOncePerPeriod : Obligations.TimaCountsOncePerPeriod := fun n _ idle =>
  ⟨timerRun_enabled n idle, timerRun_disabled n idle⟩

/-- Settles O42: the overflow ends a period of at least 16 clocks, so the signal does not fall again before the reload. -/
theorem timaOverflowReloadsAfterFourClocks : Obligations.TimaOverflowReloadsAfterFourClocks := by
  intro t idle full enabled falls
  have overflow := timerRun_overflow idle full ⟨enabled, falls⟩
  have within : (t.divCounter + 1).toNat % timaPeriod t.tac + 4 < timaPeriod t.tac := by
    rw [toNat_add_one_mod_timaPeriod, falls]
    have := timaPeriod_cases t.tac
    omega
  refine ⟨overflow, fun n few => ?_, ?_⟩
  · rw [timerRun_add, overflow, timerRun_reloading n (Nat.lt_succ_of_le few) (by dsimp only; omega)]
  · rw [show 5 = 1 + (3 + 1) from rfl, timerRun_add, overflow, timerRun_reloads 3 rfl within, add_one_add_ofNat]
    rfl

/-- Settles O43: a write of DIV clears the signal; a write of TAC clears it where the new clock's bit or its enable is 0. -/
theorem timerRegisterWrites : Obligations.TimerRegisterWrites := by
  intro v s
  have div : memWrite 0xFF04 v s = withTimer (timerWriteDiv s.timer) s := rfl
  have tac : memWrite 0xFF07 v s = withTimer (timerWriteTac v s.timer) s := rfl
  refine ⟨?_, ?_, rfl, rfl⟩
  · rw [div]
    have edge := withTimer_timerEdge (t := s.timer) (u := { s.timer with divCounter := 0 }) rfl rfl
      (timerSig s.timer.divCounter s.timer.tac) s
    refine ⟨by simp [timerWriteDiv], by simp [timerWriteDiv], by simp [timerWriteDiv], by simp, by simp, ?_⟩
    simp only [timerSig_zero, and_true] at edge
    exact edge
  · rw [tac]
    have edge := withTimer_timerEdge (t := s.timer) (u := { s.timer with tac := v.setWidth 3 }) rfl rfl
      (timerSig s.timer.divCounter s.timer.tac) s
    have written : (withTimer (timerWriteTac v s.timer) s).timer.tac = v.setWidth 3 := by simp [timerWriteTac]
    refine ⟨by simp [timerWriteTac], by simp [timerWriteTac], by simp [timerWriteTac], by simp, by simp, ?_⟩
    rw [written]
    exact edge

end Sys2Proof.Machine
end

section
/-!
The step and its interrupts (60_exceptions.md sections 1 to 3). The end of a step is the interrupt check after the timer and the
countdown (`endOfStep_eq`), and the check has three outcomes: nothing pending, a wake-up, or a service. What a service does is said
once, as a push on the bus and a jump to the vector (`enterInterrupt_sameBus`, `enterInterrupt_regs`). And the host's operations
(section 6).
-/

namespace Sys2Proof.Machine

open Sys2Proof Sys2Proof.Statements

/-! ## The bytes fetched -/

theorem streamBytes_eq (s : State) : streamBytes s = [(fetchBytes s).1, (fetchBytes s).2.1, (fetchBytes s).2.2] := by
  unfold streamBytes fetchBytes
  cases s.haltBug <;> simp [BitVec.add_assoc]

theorem fetchInstr_of_decode {s : State} {i : Instr} {rest : List Byte} (read : decode (streamBytes s) = .ok (i, rest)) :
    fetchInstr s = i := by
  rw [streamBytes_eq] at read
  obtain ⟨_, fetched, _⟩ := decode_cons_eq_ok_iff.mp read
  exact fetched

/-! ## Interrupt entry (60 R423) -/

/-- A push in a state with the bus and the SP of `s`. -/
theorem push16_sameBus_of {s u : State} (same : SameBus s u) (sp : u.regs.sp = s.regs.sp) (v : Word) :
    SameBus (memWrite (s.regs.sp - 2) (loByte v) (memWrite (s.regs.sp - 1) (hiByte v) s)) (push16 v u) := by
  rw [← sp]
  exact (memWrite_congr (memWrite_congr same _ _) _ _).trans (push16_sameBus v u)

section Service

variable (k : Nat) (s : State)

/-- The bus after the two stores of interrupt entry, the high byte of the return address first (40 R221). -/
def returnStored : State :=
  memWrite (s.regs.sp - 2) (loByte (serviceReturn s)) (memWrite (s.regs.sp - 1) (hiByte (serviceReturn s)) s)

/-- Interrupt entry pushes with the interrupt control cleared, which no store sees, and then takes the request back. -/
theorem enterInterrupt_sameBus :
    SameBus { returnStored s with iflag := (returnStored s).iflag &&& ~~~(1#5 <<< k) } (enterInterrupt k s) := by
  obtain ⟨mem, mbc, cart, timer, ie, iflag⟩ :=
    push16_sameBus_of (u := { s with ime := false, imeDelay := 0, haltBug := false }) (.refl s) rfl (serviceReturn s)
  exact ⟨mem, mbc, cart, timer, ie, congrArg (· &&& ~~~(1#5 <<< k)) iflag⟩

theorem enterInterrupt_regs :
    (enterInterrupt k s).regs = { s.regs with sp := s.regs.sp - 2, pc := interruptVector k } := by
  simp [enterInterrupt, setPc, push16_regs]

@[simp] theorem enterInterrupt_cart : (enterInterrupt k s).cart = s.cart := by simp [enterInterrupt]

@[simp] theorem enterInterrupt_cycles : (enterInterrupt k s).cycles = s.cycles := by simp [enterInterrupt]

/-- A service is the entry, 20 clocks of the timer with their request, and 5 M-cycles. -/
theorem service_eq :
    service k s =
      { enterInterrupt k s with
        timer := (timerRun 20 (enterInterrupt k s).timer).1
        iflag := if (timerRun 20 (enterInterrupt k s).timer).2 then (enterInterrupt k s).iflag ||| 0b00100#5
          else (enterInterrupt k s).iflag
        cycles := (enterInterrupt k s).cycles + 5 } := by
  rw [service, timerAdvance_eq]

@[simp] theorem service_regs :
    (service k s).regs = { s.regs with sp := s.regs.sp - 2, pc := interruptVector k } := by
  rw [service_eq]
  exact enterInterrupt_regs k s

@[simp] theorem service_halted : (service k s).halted = s.halted := by simp [service, enterInterrupt]

@[simp] theorem service_cycles : (service k s).cycles = s.cycles + 5 := by simp [service]

end Service

/-! ## The interrupt check (60 R400, R421, R422) -/

/-- With IME set and an interrupt pending, the arbiter's choice is serviced. -/
theorem interruptCheck_eq_service {t : State} (pending : t.ie &&& t.iflag ≠ 0) (on : t.ime = true) :
    interruptCheck t = service (lowestSetBit (t.ie &&& t.iflag)) { t with halted := false } := by
  unfold interruptCheck pendingInterrupts
  rw [if_neg pending, if_pos on]

theorem beforeCheck_ime_iff (t : State) : (beforeCheck t).ime = true ↔ t.ime = true ∨ t.imeDelay = 1 := by
  simp [beforeCheck]

/-- A state without a countdown at its check: the timer's clocks and its request. -/
theorem beforeCheck_of_no_delay {t : State} (noDelay : t.imeDelay = 0) :
    beforeCheck t = { t with timer := (timerRun (4 * t.cycles) t.timer).1, iflag := flagsAfterClocks t } := by
  simp [beforeCheck, noDelay]

/-- The end of a step that services: a pending source, with no lower one pending. -/
theorem endOfStep_services {t : State} (pending : t.ie &&& flagsAfterClocks t ≠ 0) (on : t.ime = true ∨ t.imeDelay = 1) :
    ∃ k : Fin 5, (t.ie &&& flagsAfterClocks t).getLsbD k.val = true ∧
      (∀ j, j < k.val → (t.ie &&& flagsAfterClocks t).getLsbD j = false) ∧
      endOfStep t = service k.val { beforeCheck t with halted := false } := by
  rw [endOfStep_eq]
  exact interruptCheck_services pending ((beforeCheck_ime_iff t).mpr on)

theorem step_of_halted {s : State} (running : s.failure = none) (asleep : s.halted = true) :
    step s = .next (endOfStep { s with cycles := 1 }) := by
  simp [step, running, asleep, haltedStep]

/-! ## The host's operations (60 R453-R456) -/

theorem hostInterruptPending_iff (s : State) :
    hostInterruptPending s = true ↔ ∃ k : Fin 5, s.ie.getLsbD k.val = true ∧ s.iflag.getLsbD k.val = true := by
  rw [hostInterruptPending, pendingInterrupts, bne_iff_ne]
  constructor
  · intro pending
    obtain ⟨k, _, both, _⟩ := lowestSetBit_spec _ pending
    rw [BitVec.getLsbD_and, Bool.and_eq_true] at both
    exact ⟨k, both⟩
  · rintro ⟨k, both⟩ idle
    rw [← Bool.and_eq_true, ← BitVec.getLsbD_and, idle] at both
    simp at both

theorem hostSnapshot_hostRestore (r : Regs) (s : State) : hostSnapshot (hostRestore r s) = { r with f := r.f &&& 0xF0 } := by
  simp [hostSnapshot, hostRestore, readF, BitVec.and_assoc]

/-! ## The obligations -/

/-- Settles O29: the bytes that the fetches read decode to the instruction that the step runs. -/
theorem stepRunsTheDecodedInstruction : Obligations.StepRunsTheDecodedInstruction := by
  intro s i rest running awake read
  obtain rfl := fetchInstr_of_decode read
  exact ⟨by simp [step, running, awake], fun _ => step_of_exec running awake, fun _ => step_of_failing_exec running awake⟩

/-- Settles O30: under the HALT bug the first operand fetch stands at the opcode, and PC ends one byte short. -/
theorem haltBugReadsTheByteTwice : Obligations.HaltBugReadsTheByteTwice := by
  intro s len _
  refine ⟨fun bug => ?_, fun noBug => ?_, rfl⟩
  · simp [fetchInstr, fetchBytes, pcAfterFetch, bug]
  · simp [fetchInstr, fetchBytes, pcAfterFetch, noBug, BitVec.add_assoc]

/-- Settles O33: the step ends in the fault that carries the failure's record, which `hostStep` returns beside the state itself. -/
theorem failureStaysLatched : Obligations.FailureStaysLatched := by
  intro s f failed
  have stopped : step s = .fault (.unimplementedOpcode f.pc f.opcode) := by simp [step, failed]
  exact ⟨stopped, by simp [hostStep, stopped], by simp [hostFailingPc, failed]⟩

/-- Settles O34: a halted step is the end of a step of 1 M-cycle; the three clauses are the outcomes of its interrupt check.
Named apart from the model's `haltedStep`. -/
theorem haltedStep_outcomes : Obligations.HaltedStep := by
  intro s running asleep noDelay ran flags
  have check : beforeCheck { s with cycles := 1 } = { s with timer := ran.1, iflag := flags, cycles := 1 } :=
    beforeCheck_of_no_delay noDelay
  rw [step_of_halted running asleep, endOfStep_eq, check]
  exact ⟨fun idle => congrArg _ (interruptCheck_none idle), fun pending off => congrArg _ (interruptCheck_wakes pending off),
    fun pending on => congrArg _ (interruptCheck_eq_service pending on)⟩

/-- Settles O35: the stores are those of the push, and the rest is said field by field. -/
theorem interruptEntry : Obligations.InterruptEntry := by
  intro k s back stored t ran cleared
  obtain ⟨mem, mbc, cart, timer, ie, iflag⟩ := enterInterrupt_sameBus k s
  obtain ⟨ime, imeDelay, haltBug⟩ := service_clears k.val s
  refine ⟨ime, imeDelay, haltBug, service_halted k s, service_failure k s, service_regs k s, ?_⟩
  rw [show t = _ from service_eq k s, timer, iflag]
  exact ⟨mem, mbc, ie, enterInterrupt_cart k s, rfl, rfl, congrArg (· + 5) (enterInterrupt_cycles k s)⟩

/-- Settles O36: the check at the end of a step services the arbiter's choice, and every step that goes on has that end. -/
theorem arbiterPicksTheLowestVector : Obligations.ArbiterPicksTheLowestVector := by
  refine ⟨fun t on pending => ?_, fun s t running => ?_⟩
  · obtain ⟨k, requested, lowest, serviced⟩ := endOfStep_services pending on
    exact ⟨k, requested, lowest, serviced, by rw [serviced, service_regs]; rfl⟩
  · rintro (⟨asleep, rfl⟩ | ⟨awake, run, goesOn⟩)
    · exact step_of_halted running asleep
    · exact step_of_exec running awake run goesOn

/-- Settles O38: the three outcomes of the interrupt check, and the countdown before it. -/
theorem deferredEnableTakesEffect : Obligations.DeferredEnableTakesEffect := by
  intro t pending
  refine ⟨fun idle => ?_, fun requested off notLast => ?_, fun requested on => ?_, fun last => ?_, fun notLast => ?_⟩
  · rw [endOfStep_eq, interruptCheck_none idle]
  · rw [endOfStep_eq, interruptCheck_wakes requested (by simp [beforeCheck, off, notLast])]
  · obtain ⟨k, wins, _, serviced⟩ := endOfStep_services requested on
    obtain ⟨ime, imeDelay, _⟩ := service_clears k.val { beforeCheck t with halted := false }
    refine ⟨k, wins, serviced, ?_⟩
    rw [serviced]
    exact ⟨ime, imeDelay, service_halted _ _, service_cycles _ _⟩
  · simp [beforeCheck, last]
  · simp [beforeCheck, notLast]

/-- Settles O54: each operation is its definition; what snapshot took has F's low nibble 0 already, so restore changes nothing of
it. -/
theorem hostOperations : Obligations.HostOperations := by
  intro s
  refine ⟨fun i source => if_pos source, fun i above => if_neg (Nat.not_le.mpr above), fun _ => rfl, rfl, ?_,
    hostInterruptPending_iff s⟩
  rw [hostSnapshot_hostRestore]
  simp [hostSnapshot, readF, BitVec.and_assoc]

end Sys2Proof.Machine
end
